-- ==== Sys2Proof/Word.lean ====
section
/-! DEFINITION. The words of the core: bytes, 32-bit patterns, frame indices, frames
(00_scope.md R9; 10_state.md R21; 30_encoding.md R80, R81). -/

namespace Sys2Proof

/-- A byte, an unsigned 8-bit value; bit 0 is its least significant bit (R9, R53, R81). -/
abbrev Byte := BitVec 8

/-- A 32-bit pattern. Decoded values are carried as patterns, never as numbers (R172, D13). -/
abbrev Word32 := BitVec 32

/-- A frame index, 0..17: an address of the one address space (R50) and the index `i` of R9.
No other index can be formed (R58). -/
abbrev FrameIndex := Fin 18

/-- The 18 bytes of a frame, by frame index (R80). -/
abbrev Frame := Vector Byte 18

/-- The source tag's type. Its width is open (R5, R36, D10): a natural number stands for a tag of
any width. DESIGN CHOICE, log 6. -/
abbrev SrcTag := Nat

end Sys2Proof
end

