-- ==== Sys2Proof/Config.lean ====
section
/-! DEFINITION. The parameters of 00_scope.md R5: the constants the spec fixes, and the open ones,
which are opaque constants: nothing can be proved of their values. -/

namespace Sys2Proof

/-- `SYNC_BYTE`: the sync marker, the value of frame byte 0 (R5, R80). -/
def Config.syncByte : Byte := 0xA5#8

/-- `FRAME_LEN`: the bytes of a frame (R5). -/
abbrev Config.frameLen : Nat := 18

/-- `PAYLOAD_FIRST`: the frame index of the first payload byte (R5). -/
abbrev Config.payloadFirst : FrameIndex := 1

/-- `PAYLOAD_LAST`: the frame index of the last payload byte (R5). -/
abbrev Config.payloadLast : FrameIndex := 16

/-- `CHECKSUM_INDEX`: the frame index of the checksum byte (R5). -/
abbrev Config.checksumIndex : FrameIndex := 17

/-- `CRC_POLY_REFLECTED`: the constant XORed into `crc` (R5, R140). -/
def Config.crcPoly : Byte := 0x8C#8

/-- `CRC_INIT`: the value of `crc` at the start of every frame (R5, R142). -/
def Config.crcInit : Byte := 0x00#8

/-- `SOURCE_TAG`: OPEN, the same in every measurement (R5, R82, D10). Free value, log 6. -/
opaque Config.sourceTag : SrcTag

/-- `POSE_RESET` for `last_x`: what the register holds after the reset with this draw number
(R5, R40, D7: "any 32-bit values"). Free value, log 4. -/
opaque Config.lastXReset : Nat → Word32

/-- `POSE_RESET` for `last_y` (R5, R40, D7). Free value, log 4. -/
opaque Config.lastYReset : Nat → Word32

/-- `POSE_RESET` for `last_z` (R5, R40, D7). Free value, log 4. -/
opaque Config.lastZReset : Nat → Word32

/-- What a buffer byte that nothing has written since the reset with this draw number reads as
(draw, then frame index; R40, D6: "unspecified"). Free value, log 5. -/
opaque Config.bufReset : Nat → Nat → Byte

end Sys2Proof
end

