-- ==== Sys2Proof/Syntax.lean ====
section
/-! DEFINITION. The formats of 30_encoding.md (the measurement R82, a sample of the input ports
10_state.md R36) and the instructions: one constructor per row of spec/opcode_table.json. -/

namespace Sys2Proof

/-- The measurement `x, y, z, stdDev, source_tag` (30_encoding.md R82): four binary32 patterns and
the tag. -/
structure Measurement where
  x : Word32
  y : Word32
  z : Word32
  stdDev : Word32
  sourceTag : SrcTag
  deriving DecidableEq, Repr

/-- One sample of the input ports (10_state.md R36): `rst`, `in_valid`, `in_data`. -/
structure PortSample where
  rst : Bool
  inValid : Bool
  inData : Byte
  deriving DecidableEq, Repr

/-- The operations of the core (30_encoding.md R86 and R94, 70_reset_and_hazards.md R230), with the
operands their rules give them. -/
inductive Instr where
  /-- DROP(b), R111: a byte-step operation. -/
  | drop (b : Byte)
  /-- SYNC(b), R112: a byte-step operation; its byte is always `0xA5`. -/
  | sync
  /-- STORE(b), R113: a byte-step operation. -/
  | store (b : Byte)
  /-- CLOSE(b), R114: a byte-step operation. -/
  | close (b : Byte)
  /-- CRC8_BIT(crc, byte), R140: internal. -/
  | crc8Bit (crc byte : Byte)
  /-- CRC8_BYTE(crc, d), R141: internal. -/
  | crc8Byte (crc d : Byte)
  /-- CRC8_PAYLOAD(frame), R142: internal. -/
  | crc8Payload (frame : Frame)
  /-- VALIDATE_AND_DECODE(frame), R144: internal. -/
  | validateAndDecode (frame : Frame)
  /-- REJECT, R145: internal. -/
  | reject
  /-- F32LE(b0, b1, b2, b3), R170: internal. -/
  | f32le (b0 b1 b2 b3 : Byte)
  /-- DECODE(frame), R171: internal. -/
  | decode (frame : Frame)
  /-- EMIT(m), R175: internal. -/
  | emit (m : Measurement)
  /-- CACHE_UPDATE(m), R176: internal. -/
  | cacheUpdate (m : Measurement)
  /-- RESET, R230: selected by the `rst` port. -/
  | reset
  /-- FRAME(x, y, z, s), R94: pseudo-instruction. -/
  | frame (x y z s : Word32)
  /-- BADFRAME(x, y, z, s, k), R94: pseudo-instruction. -/
  | badframe (x y z s : Word32) (k : Byte)
  /-- NOISE(b ...), R94: pseudo-instruction. -/
  | noise (bytes : List Byte)
  /-- FRAME18, R80: the 18-byte frame format with its fields. -/
  | frame18 (x y z stdDev : Word32) (checksum : Byte)
  deriving DecidableEq, Repr

end Sys2Proof
end

