-- ==== Sys2Proof/Machine/Operands.lean ====
section
/-! DEFINITION. Field assembly and its inverse (30_encoding.md R83, R91; 42_float_decoder_emit.md
R170, R171): the one place where byte order is decided (20_memory.md R52). -/

namespace Sys2Proof

/-- F32LE (R170, R83): four bytes in order of increasing frame index, least significant first. -/
def f32le (b0 b1 b2 b3 : Byte) : Word32 :=
  b0.setWidth 32 ||| (b1.setWidth 32 <<< 8) ||| (b2.setWidth 32 <<< 16) ||| (b3.setWidth 32 <<< 24)

/-- Byte `k` of a 32-bit value, `value[8k+7 : 8k]` (R91). -/
def byteOf (w : Word32) (k : Nat) : Byte := w.extractLsb' (8 * k) 8

/-- DECODE (R171): the four fields x, y, z, stdDev in that order, with `SOURCE_TAG`. -/
def decodeFields (f : Frame) : Measurement :=
  { x := f32le f[1] f[2] f[3] f[4]
    y := f32le f[5] f[6] f[7] f[8]
    z := f32le f[9] f[10] f[11] f[12]
    stdDev := f32le f[13] f[14] f[15] f[16]
    sourceTag := Config.sourceTag }

/-- The 18 bytes of the frame format with these fields and this checksum byte (R80). -/
def frameOf (x y z s : Word32) (checksum : Byte) : Frame :=
  #v[Config.syncByte,
     byteOf x 0, byteOf x 1, byteOf x 2, byteOf x 3,
     byteOf y 0, byteOf y 1, byteOf y 2, byteOf y 3,
     byteOf z 0, byteOf z 1, byteOf z 2, byteOf z 3,
     byteOf s 0, byteOf s 1, byteOf s 2, byteOf s 3,
     checksum]

/-- `f[17] = CRC8_PAYLOAD(f)` of R91, which does not depend on the checksum byte itself (R84). -/
def frameChecksum (x y z s : Word32) : Byte := crc8Payload (frameOf x y z s 0)

/-- EncodeFrame (R91): the transmitter's function. -/
def encodeFrame (x y z s : Word32) : Frame := frameOf x y z s (frameChecksum x y z s)

end Sys2Proof
end

