-- ==== Sys2Proof/WellFormed.lean ====
section
/-! DEFINITION. What the spec asks of an instruction's operands. An instruction whose operands break
the check is not an instruction of the spec (30_encoding.md R86, R94; 42_float_decoder_emit.md R171;
30_encoding.md R82). -/

namespace Sys2Proof

/-- The operand checks, one per row that has one. -/
def Instr.wellFormed : Instr → Bool
  -- R111: "any of the 255 values other than 0xA5"
  | .drop b => b != Config.syncByte
  | .sync => true
  | .store _ => true
  | .close _ => true
  | .crc8Bit _ _ => true
  | .crc8Byte _ _ => true
  | .crc8Payload _ => true
  | .validateAndDecode _ => true
  | .reject => true
  | .f32le _ _ _ _ => true
  -- R171: "a frame whose checksum matched"
  | .decode f => Sys2Proof.crc8Payload f == f[17]
  -- R82: the tag "is the same in every measurement"
  | .emit m => m.sourceTag == Config.sourceTag
  | .cacheUpdate m => m.sourceTag == Config.sourceTag
  | .reset => true
  | .frame _ _ _ _ => true
  -- R94: "k must differ from the correct checksum"
  | .badframe x y z s k => k != frameChecksum x y z s
  -- R94: "asserts that none of them is A5"
  | .noise bytes => bytes.all (· != Config.syncByte)
  | .frame18 _ _ _ _ _ => true

end Sys2Proof
end

