-- ==== Sys2Proof/Decode.lean ====
section
/-! DEFINITION. Decoding and encoding: a byte under the cursor (30_encoding.md R86), a sample of the
input ports (10_state.md R36, R37; 60_exceptions.md R206), the 18-byte frame format (R80), the byte
listings of the pseudo-instructions (R94), and the host's view of a table word. -/

namespace Sys2Proof

/-- Why a listing of bytes is not what a decoder of listings looks for. -/
inductive DecodeError where
  /-- The listing does not hold 18 bytes (R80: "length is always exactly 18"). -/
  | badLength
  /-- Byte 0 is not `0xA5` (R80: "the sync byte occupies index 0"). -/
  | noSync
  /-- The listing is neither one frame nor bytes without `0xA5` (R94). -/
  | notOnePseudo
  deriving DecidableEq, Repr

/-- The operation map R86: the byte-step operation selected by the pair (`cursor`, `b`). Total: no
byte is illegal in any state (R88). -/
def decodeByte (cursor : FrameIndex) (b : Byte) : Instr :=
  if cursor = 0 then
    if b = Config.syncByte then .sync else .drop b
  else if cursor.val ≤ 16 then .store b
  else .close b

/-- A sample of the input ports under the cursor: reset wins over a coincident byte (R206); a byte
is taken when `in_valid = 1` (`in_ready` is held at 1, log 3); otherwise nothing happens (R37). -/
def decodePorts (cursor : FrameIndex) (p : PortSample) : Option Instr :=
  if p.rst then some .reset
  else if p.inValid then some (decodeByte cursor p.inData)
  else none

/-- The frame format R80, read as FRAME18: rejects by name a listing of another length or one whose
byte 0 is not the sync byte. -/
def decodeFrame : List Byte → Except DecodeError Instr
  | [b0, b1, b2, b3, b4, b5, b6, b7, b8, b9, b10, b11, b12, b13, b14, b15, b16, b17] =>
    if b0 = Config.syncByte then
      .ok (.frame18 (f32le b1 b2 b3 b4) (f32le b5 b6 b7 b8) (f32le b9 b10 b11 b12)
        (f32le b13 b14 b15 b16) b17)
    else .error .noSync
  | _ => .error .badLength

/-- The pseudo-instruction a byte listing abbreviates (R94): one frame with the correct checksum is
FRAME, with another one BADFRAME; bytes without `0xA5` are NOISE. -/
def decodeListing (bytes : List Byte) : Except DecodeError Instr :=
  match decodeFrame bytes with
  | .ok (.frame18 x y z s k) =>
    if k = frameChecksum x y z s then .ok (.frame x y z s) else .ok (.badframe x y z s k)
  | _ => if bytes.all (· != Config.syncByte) then .ok (.noise bytes) else .error .notOnePseudo

/-- The encoder: the bytes of a byte-step operation (one byte, R81, R86), of a frame (R80, R91) and
of a pseudo-instruction's expansion (R94). The internal operations and RESET have no byte encoding
("never selected directly by an input byte", R86). -/
def encode : Instr → Option (List Byte)
  | .drop b => some [b]
  | .sync => some [Config.syncByte]
  | .store b => some [b]
  | .close b => some [b]
  | .crc8Bit _ _ => none
  | .crc8Byte _ _ => none
  | .crc8Payload _ => none
  | .validateAndDecode _ => none
  | .reject => none
  | .f32le _ _ _ _ => none
  | .decode _ => none
  | .emit _ => none
  | .cacheUpdate _ => none
  | .reset => none
  | .frame x y z s => some (encodeFrame x y z s).toList
  | .badframe x y z s k => some (frameOf x y z s k).toList
  | .noise bytes => some bytes
  | .frame18 x y z s k => some (frameOf x y z s k).toList

/-- The sample of the input ports that offers one byte (R37). -/
def PortSample.ofByte (b : Byte) : PortSample := { rst := false, inValid := true, inData := b }

/-- The sample of the input ports that selects an instruction: the byte of a byte-step operation,
`rst = 1` for RESET (R230; `in_data` does not matter then, R206). -/
def encodePorts : Instr → Option PortSample
  | .drop b => some (.ofByte b)
  | .sync => some (.ofByte Config.syncByte)
  | .store b => some (.ofByte b)
  | .close b => some (.ofByte b)
  | .reset => some { rst := true, inValid := false, inData := 0 }
  | .crc8Bit _ _ => none
  | .crc8Byte _ _ => none
  | .crc8Payload _ => none
  | .validateAndDecode _ => none
  | .reject => none
  | .f32le _ _ _ _ => none
  | .decode _ => none
  | .emit _ => none
  | .cacheUpdate _ => none
  | .frame _ _ _ _ => none
  | .badframe _ _ _ _ _ => none
  | .noise _ => none
  | .frame18 _ _ _ _ _ => none

/-- The encoding condition on the cursor of a byte-step operation (the first column of R86); the
other operations have none. -/
def Instr.selectedAt (cursor : FrameIndex) : Instr → Bool
  | .drop _ => cursor == 0
  | .sync => cursor == 0
  | .store _ => 1 ≤ cursor.val && cursor.val ≤ 16
  | .close _ => cursor == 17
  | .crc8Bit _ _ => false
  | .crc8Byte _ _ => false
  | .crc8Payload _ => false
  | .validateAndDecode _ => false
  | .reject => false
  | .f32le _ _ _ _ => false
  | .decode _ => false
  | .emit _ => false
  | .cacheUpdate _ => false
  | .reset => false
  | .frame _ _ _ _ => false
  | .badframe _ _ _ _ _ => false
  | .noise _ => false
  | .frame18 _ _ _ _ _ => false

/-- The `n` bytes of a number, the least significant first: the first byte in time holds bits 7..0
(R80, "one 144-bit little-endian number"). -/
def tableBytes (n w : Nat) : List Byte := (List.range n).map fun k => BitVec.ofNat 8 (w >>> (8 * k))

/-- The instruction the decoder reads from a table word: one byte is decoded under the cursor right
after reset, which is 0; 18 bytes are read as the frame format (log 18). -/
def decodeTableWord (nbits w : Nat) : Option Instr :=
  if nbits = 8 then some (decodeByte 0 (BitVec.ofNat 8 w))
  else if nbits = 144 then (decodeFrame (tableBytes 18 w)).toOption
  else none

end Sys2Proof
end

