-- ==== Sys2Proof/Machine/State.lean ====
section
/-! DEFINITION. The state of the machine as plain data: the six items of 10_state.md R20, the ports
and the observation (R36, 00_scope.md R8), and two fields of the model's own. -/

namespace Sys2Proof.Machine

/-- The buffer as memory (20_memory.md R50): the bytes written since the last reset, as pairs of a
frame index and a byte, indices strictly rising. An index that is not listed holds no value of the
current draw (R40). -/
abbrev Memory := List Host.Cell

/-- The result of VALIDATE_AND_DECODE (R144), the source's `Result<Measurement, ChecksumMismatch>`. -/
inductive Verdict where
  /-- `Ok(m)`. -/
  | ok (m : Measurement)
  /-- `Err(ChecksumMismatch)`: an ordinary value, not a raise (R10, R202). -/
  | checksumMismatch
  deriving DecidableEq, Repr

/-- What an internal operation returned (the `return` of R140 to R144, R170, R171). -/
inductive Returned where
  /-- Nothing was returned in this step. -/
  | none
  /-- CRC8_BIT: the new `crc` and the new `byte` (R140). -/
  | bit (crc byte : Byte)
  /-- CRC8_BYTE and CRC8_PAYLOAD: a CRC value (R141, R142). -/
  | crc (value : Byte)
  /-- VALIDATE_AND_DECODE (R144). -/
  | verdict (v : Verdict)
  /-- F32LE: a 32-bit pattern (R170). -/
  | word (w : Word32)
  /-- DECODE: a measurement (R171). -/
  | measurement (m : Measurement)
  deriving DecidableEq, Repr

/-- The state of the core with its boundaries. -/
structure State where
  /-- `buf[0..17]` (R21 to R24). -/
  buf : Memory
  /-- `cursor`, 0..17 at every step boundary (R25). -/
  cursor : FrameIndex
  /-- `last_x` (R28). -/
  lastX : Word32
  /-- `last_y` (R28). -/
  lastY : Word32
  /-- `last_z` (R28). -/
  lastZ : Word32
  /-- `pose_valid` (R29). -/
  poseValid : Bool
  /-- The samples of the input ports still to come, first sample first (R36, R37). -/
  input : List PortSample
  /-- The measurement ports in the current step: `meas_valid = 1` with these values, or
  `meas_valid = 0` (R38). -/
  meas : Option Measurement
  /-- The emitted measurements in order of emission (R8, R175): what the sink has received. -/
  emitted : List Measurement
  /-- The model's own: what an internal operation executed on its own returned (R34: "not state";
  log 11). -/
  ret : Returned
  /-- The model's own: the number of resets taken, which selects the free values the next reset
  leaves (log 8). -/
  draws : Nat
  deriving DecidableEq, Repr

/-- The reasons the machine could stop with a fault. There is none: "it has no fault outcome, no
stuck outcome and no refusal" (60_exceptions.md R203), and an out-of-range index cannot be formed
(20_memory.md R58). Nothing raises a fault, which is what the spec says and hence neither safe nor
unsafe. -/
inductive Fault where
  deriving DecidableEq, Repr

/-- The reasons an instruction has no meaning in a state. -/
inductive Refusal where
  /-- Raised by an arm of `exec` that is not modelled yet. Safe: no claim follows from it. No arm
  raises it in this model. -/
  | notModelled (mnemonic : String)
  /-- Raised by a byte-step operation executed on its own in a state in which its encoding condition
  (30_encoding.md R86) does not hold: the spec selects another operation there and gives this one no
  effect. Safe: a step never meets it (R203), and no claim follows from it. Log 12. -/
  | notSelected
  deriving DecidableEq, Repr

/-- The state right after reset (10_state.md R40, 70_reset_and_hazards.md R230): `cursor = 0`,
`pose_valid = 0`, the buffer without values, the pose registers unspecified (the free values of draw
0, logs 4 and 5), no emission, `meas_valid = 0`. -/
def State.reset : State where
  buf := []
  cursor := 0
  lastX := Config.lastXReset 0
  lastY := Config.lastYReset 0
  lastZ := Config.lastZReset 0
  poseValid := false
  input := []
  meas := none
  emitted := []
  ret := .none
  draws := 1

end Sys2Proof.Machine
end

