-- ==== Sys2Proof/Machine/Memory.lean ====
section
/-! DEFINITION. The buffer as memory (20_memory.md R50 to R58): a list of (frame index, byte) pairs
in one canonical form. -/

namespace Sys2Proof.Machine

/-- The byte listed at an index, if one is. -/
def Memory.lookup : Memory → Nat → Option Byte
  | [], _ => none
  | (j, c) :: rest, i => if j = i then some c else Memory.lookup rest i

/-- One store of one byte (R56); it replaces the whole byte and keeps the indices rising. -/
def Memory.write : Memory → Nat → Byte → Memory
  | [], i, b => [(i, b)]
  | (j, c) :: rest, i, b =>
    if i < j then (i, b) :: (j, c) :: rest
    else if i = j then (i, b) :: rest
    else (j, c) :: Memory.write rest i b

/-- The canonical form: indices strictly rising and below 18. An index that is not listed holds no
value (`Memory.lookup` answers none), so no entry can be equal to what an unlisted index holds. -/
abbrev Memory.wf (m : Memory) : Prop :=
  m.Pairwise (fun a b => a.1 < b.1) ∧ ∀ c ∈ m, c.1 < Config.frameLen

/-- What an index that is not listed reads as: the free value of the current draw (R40, D6: a draw
the claims quantify over, never a chosen number). Log 5. -/
def State.unwritten (s : State) (i : FrameIndex) : Byte := Config.bufReset s.draws i.val

/-- `buf[i]` (R10): the byte written last at this index since the reset. No side effect (R57). -/
def State.readByte (s : State) (i : FrameIndex) : Byte :=
  (Memory.lookup s.buf i.val).getD (s.unwritten i)

/-- `buf[i] <- b`, that is `MemWrite(i, 1, b)` (R10, R56). -/
def State.writeByte (s : State) (i : FrameIndex) (b : Byte) : State :=
  { s with buf := Memory.write s.buf i.val b }

/-- `MemRead(addr, n)` (R10): the `n` bytes from `addr` on, lowest index first; defined only where
`addr + n <= 18` (R58). -/
def State.memRead (s : State) (addr n : Nat) (h : addr + n ≤ 18) : Vector Byte n :=
  Vector.ofFn fun k => s.readByte ⟨addr + k.val, by omega⟩

/-- The candidate frame `buf[0..17]`, `MemRead(0, 18)` (R114). -/
def State.readFrame (s : State) : Frame := s.memRead 0 18 (by omega)

end Sys2Proof.Machine
end

