-- ==== Sys2Proof/Machine/Flags.lean ====
section
/-! DEFINITION. The one flag `pose_valid` (10_state.md R29), the two states of the resync state
machine (R27), the two failure kinds (60_exceptions.md R200) and the outcome labels (00_scope.md
R12). -/

namespace Sys2Proof.Machine

/-- `pose_valid <- 1`, by CACHE_UPDATE only (R29, R176). -/
def State.setPoseValid (s : State) : State := { s with poseValid := true }

/-- `pose_valid <- 0`, by RESET only (R29, R230). -/
def State.clearPoseValid (s : State) : State := { s with poseValid := false }

/-- The states of the resync state machine (R27). -/
inductive Mode where
  /-- Not currently accumulating: `cursor = 0`. -/
  | search
  /-- Accumulating: `1 <= cursor <= 17`. -/
  | accum
  deriving DecidableEq, Repr

/-- The state of the resync state machine, a function of `cursor` alone (R27). -/
def State.mode (s : State) : Mode := if s.cursor = 0 then .search else .accum

/-- The two failure kinds, without codes (R200, D15). -/
inductive FailureKind where
  /-- Sync loss / noise (R201). -/
  | syncLoss
  /-- Checksum mismatch (R202). -/
  | checksumMismatch
  deriving DecidableEq, Repr

/-- The outcome labels of a step (R12, D15): names for traces; the hardware shows none. -/
inductive Label where
  | drop
  | sync
  | store
  | emit
  | reject
  deriving DecidableEq, Repr

end Sys2Proof.Machine
end

