-- ==== Sys2Proof/Machine/Ops.lean ====
section
/-! DEFINITION. The named operations over the state that the meanings share: the cursor, the
emission, the cache update, the failure path, the reset, and the fetch of the next port sample. -/

namespace Sys2Proof.Machine

/-- `cursor <- v` (R10). -/
def State.setCursor (s : State) (v : FrameIndex) : State := { s with cursor := v }

/-- `emit(m)` (R175): append `m` to the emitted list and drive the measurement ports in this step
(R38). The sink answers nothing. -/
def State.emit (s : State) (m : Measurement) : State :=
  { s with meas := some m, emitted := s.emitted ++ [m] }

/-- The four writes of CACHE_UPDATE, together (R176, R60); stdDev is not stored (R30). -/
def State.cacheUpdate (s : State) (m : Measurement) : State :=
  State.setPoseValid { s with lastX := m.x, lastY := m.y, lastZ := m.z }

/-- The `return` of an internal operation executed on its own (log 11). -/
def State.giveBack (s : State) (r : Returned) : State := { s with ret := r }

/-- What takes the place of TAKING AN EXCEPTION (60_exceptions.md R207) and of returning from one
(R208): a failure kind is absorbed by the step that detects it. Nothing is saved, no mode changes,
no handler runs, nothing is recorded (R201, R202), and the core continues with the next byte. -/
def State.absorb (s : State) (_kind : FailureKind) : State := s

/-- The RESET operation (70_reset_and_hazards.md R230, R40): `cursor <- 0`, `pose_valid <- 0`, the
buffer and the pose registers unspecified (the free values of a fresh draw, logs 4, 5, 8),
`meas_valid = 0`, no emission, no transient left. -/
def State.applyReset (s : State) : State :=
  State.clearPoseValid
    { s with
      buf := []
      cursor := 0
      lastX := Config.lastXReset s.draws
      lastY := Config.lastYReset s.draws
      lastZ := Config.lastZReset s.draws
      meas := none
      ret := .none
      draws := s.draws + 1 }

/-- What every step begins with: the strobe of the step before is over (R38: one cycle per
emission), and no transient of it is left (R34). -/
def State.beginStep (s : State) : State := { s with meas := none, ret := .none }

/-- The next sample of the input ports has been taken (R59: the input is read destructively). With
no sample there the core waits (R63, R217). -/
def State.advance (s : State) : State := { s.beginStep with input := s.input.tail }

/-- The instruction that the next sample of the input ports selects under the cursor (R86, R206),
if there is a sample and it selects one. -/
def State.nextInstr (s : State) : Option Instr := s.input.head?.bind (decodePorts s.cursor)

/-- The bytes of a table word offered on the input ports, the first byte first, before everything
else that is to come (log 18). -/
def State.offer (s : State) (bytes : List Byte) : State :=
  { s with input := bytes.map PortSample.ofByte ++ s.input }

end Sys2Proof.Machine
end

