-- ==== Sys2Proof/Machine/Control.lean ====
section
/-! DEFINITION. The control operation of the `rst` port: RESET (70_reset_and_hazards.md R230 to
R233). Re-initialisation is the same operation (R232). -/

namespace Sys2Proof.Machine

/-- RESET (R230). -/
def execReset (s : State) : Host.Outcome State Fault Refusal := .next s.applyReset

end Sys2Proof.Machine
end

