-- ==== Sys2Proof/Machine/Emitter.lean ====
section
/-! DEFINITION. The float decoder and emission family (42_float_decoder_emit.md): F32LE, DECODE,
EMIT, CACHE_UPDATE. -/

namespace Sys2Proof.Machine

/-- F32LE (R170). -/
def execF32le (b0 b1 b2 b3 : Byte) (s : State) : Host.Outcome State Fault Refusal :=
  .next (s.giveBack (.word (f32le b0 b1 b2 b3)))

/-- DECODE (R171). -/
def execDecode (f : Frame) (s : State) : Host.Outcome State Fault Refusal :=
  .next (s.giveBack (.measurement (decodeFields f)))

/-- EMIT (R175). -/
def execEmit (m : Measurement) (s : State) : Host.Outcome State Fault Refusal := .next (s.emit m)

/-- CACHE_UPDATE (R176). -/
def execCacheUpdate (m : Measurement) (s : State) : Host.Outcome State Fault Refusal :=
  .next (s.cacheUpdate m)

end Sys2Proof.Machine
end

