-- ==== Sys2Proof/Machine/Validator.lean ====
section
/-! DEFINITION. The CRC-8 validator family (41_crc8_validator.md): CRC8_BIT, CRC8_BYTE,
CRC8_PAYLOAD, VALIDATE_AND_DECODE, REJECT. -/

namespace Sys2Proof.Machine

/-- VALIDATE_AND_DECODE as a pure function of the 18 bytes (R144): an 8-bit comparison with index
17, decode only on a match, no check of index 0 (D19). -/
def validateAndDecode (f : Frame) : Verdict :=
  if crc8Payload f = f[17] then .ok (decodeFields f) else .checksumMismatch

/-- REJECT as a state change (R145): none; the failure kind is absorbed (R202). -/
def rejectOp (s : State) : State := s.absorb .checksumMismatch

/-- CRC8_BIT (R140). -/
def execCrc8Bit (crc byte : Byte) (s : State) : Host.Outcome State Fault Refusal :=
  .next (s.giveBack (.bit (crc8Bit crc byte).1 (crc8Bit crc byte).2))

/-- CRC8_BYTE (R141). -/
def execCrc8Byte (crc d : Byte) (s : State) : Host.Outcome State Fault Refusal :=
  .next (s.giveBack (.crc (crc8Byte crc d)))

/-- CRC8_PAYLOAD (R142). -/
def execCrc8Payload (f : Frame) (s : State) : Host.Outcome State Fault Refusal :=
  .next (s.giveBack (.crc (crc8Payload f)))

/-- VALIDATE_AND_DECODE (R144). -/
def execValidateAndDecode (f : Frame) (s : State) : Host.Outcome State Fault Refusal :=
  .next (s.giveBack (.verdict (validateAndDecode f)))

/-- REJECT (R145). -/
def execReject (s : State) : Host.Outcome State Fault Refusal := .next (rejectOp s)

end Sys2Proof.Machine
end

