-- ==== Sys2Proof/Machine/Assembler.lean ====
section
/-! DEFINITION. The Frame Assembler family (40_frame_assembler.md): the dispatch `Feed` and the
byte-step operations DROP, SYNC, STORE, CLOSE. -/

namespace Sys2Proof.Machine

/-- DROP as a state change (R111): none; noise is absorbed (R201). -/
def dropOp (s : State) : State := s.absorb .syncLoss

/-- SYNC as a state change (R112). -/
def syncOp (s : State) : State := (s.writeByte 0 Config.syncByte).setCursor 1

/-- STORE as a state change (R113); the sum stays in 2..17 where STORE is selected (R117). -/
def storeOp (b : Byte) (s : State) : State := (s.writeByte s.cursor b).setCursor (s.cursor + 1)

/-- The two branches of CLOSE after the cursor is 0 again (R114): EMIT then CACHE_UPDATE (R177), or
REJECT. -/
def settleFrame (s : State) : Verdict → State
  | .ok m => (s.emit m).cacheUpdate m
  | .checksumMismatch => rejectOp s

/-- The state of CLOSE before it validates (R114): the 18th byte stored, the cursor reset
unconditionally (C2). The transient cursor 18 is not state (R25, log 7). -/
def State.closed (s : State) (b : Byte) : State := (s.writeByte 17 b).setCursor 0

/-- CLOSE as a state change (R114): store the 18th byte, take the candidate frame, reset the cursor,
then validate the frame and settle. -/
def closeOp (b : Byte) (s : State) : State :=
  settleFrame (s.closed b) (validateAndDecode (s.writeByte 17 b).readFrame)

/-- DROP (R111), where R86 selects it. -/
def execDrop (b : Byte) (s : State) : Host.Outcome State Fault Refusal :=
  if s.cursor = 0 ∧ b ≠ Config.syncByte then .next (dropOp s) else .refused .notSelected

/-- SYNC (R112), where R86 selects it. -/
def execSync (s : State) : Host.Outcome State Fault Refusal :=
  if s.cursor = 0 then .next (syncOp s) else .refused .notSelected

/-- STORE (R113), where R86 selects it. -/
def execStore (b : Byte) (s : State) : Host.Outcome State Fault Refusal :=
  if 1 ≤ s.cursor.val ∧ s.cursor.val ≤ 16 then .next (storeOp b s) else .refused .notSelected

/-- CLOSE (R114), where R86 selects it. -/
def execClose (b : Byte) (s : State) : Host.Outcome State Fault Refusal :=
  if s.cursor = 17 then .next (closeOp b s) else .refused .notSelected

/-- `Feed(b)` (R110), the step of the core on one accepted byte: total, it never blocks, fails or
refuses. -/
def State.feed (s : State) (b : Byte) : State :=
  if s.cursor = 0 then
    if b = Config.syncByte then syncOp s.beginStep else dropOp s.beginStep
  else if s.cursor.val ≤ 16 then storeOp b s.beginStep
  else closeOp b s.beginStep

/-- The outcome label of `Feed(b)` (R12). -/
def State.label (s : State) (b : Byte) : Label :=
  if s.cursor = 0 then
    if b = Config.syncByte then .sync else .drop
  else if s.cursor.val ≤ 16 then .store
  else if crc8Payload (s.writeByte 17 b).readFrame = b then .emit
  else .reject

/-- The failure kind that `Feed(b)` absorbs, if any (R200 to R202). -/
def State.failure (s : State) (b : Byte) : Option FailureKind :=
  match s.label b with
  | .drop => some .syncLoss
  | .reject => some .checksumMismatch
  | .sync => none
  | .store => none
  | .emit => none

/-- The assembler on its own, the source's `feed(byte) → Option<Frame>` (R123): it stores, moves the
cursor, and gives the completed frame away. -/
def State.assemble (s : State) (b : Byte) : State × Option Frame :=
  if s.cursor = 0 then
    if b = Config.syncByte then (syncOp s, none) else (s, none)
  else if s.cursor.val ≤ 16 then (storeOp b s, none)
  else (s.closed b, some (s.writeByte 17 b).readFrame)

/-- The validator's part of the pipeline on what the assembler gave (R123). -/
def State.consume (s : State) : Option Frame → State
  | none => s
  | some f => settleFrame s (validateAndDecode f)

/-- `Feed` for every byte of a finite sequence, in order: the state component of `Run` (R8). -/
def State.feedAll (s : State) (bytes : List Byte) : State := bytes.foldl State.feed s

/-- `Run(s, bs)` (R8): the final state and the list of measurements emitted on the way, in order. -/
def State.run (s : State) : List Byte → State × List Measurement
  | [] => (s, [])
  | b :: rest =>
    let s' := s.feed b
    ((s'.run rest).1, s'.meas.toList ++ (s'.run rest).2)

end Sys2Proof.Machine
end

