-- ==== Sys2Proof/Machine/Stream.lean ====
section
/-! DEFINITION. The pseudo-instructions and the frame format (30_encoding.md R94, R80): each is an
abbreviation for bytes and nothing more, so its meaning is `Run` of those bytes (R8), whatever the
state. They add no state and no behaviour to the core. -/

namespace Sys2Proof.Machine

/-- FRAME(x, y, z, s) (R94): the 18 bytes of EncodeFrame (R91), fed in order. -/
def execFrame (x y z st : Word32) (s : State) : Host.Outcome State Fault Refusal :=
  .next (s.feedAll (encodeFrame x y z st).toList)

/-- BADFRAME(x, y, z, s, k) (R94): the same bytes with the last one replaced by `k`. -/
def execBadframe (x y z st : Word32) (k : Byte) (s : State) : Host.Outcome State Fault Refusal :=
  .next (s.feedAll (frameOf x y z st k).toList)

/-- NOISE(b ...) (R94): the listed bytes, fed in order. -/
def execNoise (bytes : List Byte) (s : State) : Host.Outcome State Fault Refusal :=
  .next (s.feedAll bytes)

/-- FRAME18 (R80): the 18 bytes of the format with these fields, fed in order. -/
def execFrame18 (x y z stdDev : Word32) (checksum : Byte) (s : State) :
    Host.Outcome State Fault Refusal :=
  .next (s.feedAll (frameOf x y z stdDev checksum).toList)

end Sys2Proof.Machine
end

