-- ==== Sys2Proof/Machine/Dispatch.lean ====
section
/-! DEFINITION. One arm per operation: what executing it on its own does. -/

namespace Sys2Proof.Machine

def exec (i : Instr) (s : State) : Host.Outcome State Fault Refusal :=
  match i with
  -- the byte-step operations (40_frame_assembler.md)
  | .drop b => Sys2Proof.Machine.execDrop b s
  | .sync => Sys2Proof.Machine.execSync s
  | .store b => Sys2Proof.Machine.execStore b s
  | .close b => Sys2Proof.Machine.execClose b s
  -- the validator (41_crc8_validator.md)
  | .crc8Bit crc byte => Sys2Proof.Machine.execCrc8Bit crc byte s
  | .crc8Byte crc d => Sys2Proof.Machine.execCrc8Byte crc d s
  | .crc8Payload f => Sys2Proof.Machine.execCrc8Payload f s
  | .validateAndDecode f => Sys2Proof.Machine.execValidateAndDecode f s
  | .reject => Sys2Proof.Machine.execReject s
  -- the decoder and the emission (42_float_decoder_emit.md)
  | .f32le b0 b1 b2 b3 => Sys2Proof.Machine.execF32le b0 b1 b2 b3 s
  | .decode f => Sys2Proof.Machine.execDecode f s
  | .emit m => Sys2Proof.Machine.execEmit m s
  | .cacheUpdate m => Sys2Proof.Machine.execCacheUpdate m s
  -- the rst port (70_reset_and_hazards.md)
  | .reset => Sys2Proof.Machine.execReset s
  -- the pseudo-instructions and the frame format (30_encoding.md)
  | .frame x y z st => Sys2Proof.Machine.execFrame x y z st s
  | .badframe x y z st k => Sys2Proof.Machine.execBadframe x y z st k s
  | .noise bytes => Sys2Proof.Machine.execNoise bytes s
  | .frame18 x y z st k => Sys2Proof.Machine.execFrame18 x y z st k s

end Sys2Proof.Machine
end

