-- ==== Sys2Proof/Machine/Step.lean ====
section
/-! DEFINITION. The step: one sample of the input ports (00_scope.md R6, R7; 10_state.md R37;
60_exceptions.md R206). -/

namespace Sys2Proof.Machine

/-- One step: take the next sample of the input ports and execute the instruction it selects under
the cursor; an idle sample, or no sample, changes no architectural state (R37, R217). -/
def step (s : State) : Host.Outcome State Fault Refusal :=
  match s.nextInstr with
  | none => .next s.advance
  | some i => exec i s.advance

/-- `s` with the bytes of a table word offered first on the input ports (log 18). -/
def State.withFetchWord (s : State) (nbits w : Nat) : State := s.offer (tableBytes (nbits / 8) w)

end Sys2Proof.Machine
end

