-- ==== Sys2Proof/Machine/Binary32.lean ====
section
/-! DEFINITION. What a 32-bit pattern means to a reader of decoded values (30_encoding.md R85,
42_float_decoder_emit.md R173; the spec takes both from general knowledge, G1). No operation of the
core uses anything here (R174). PRESUMED, log 24. -/

namespace Sys2Proof.Machine

/-- The sign bit `w[31]` (R85). -/
def binary32Sign (w : Word32) : Bool := w.getLsbD 31

/-- The biased exponent `w[30:23]` (R85). -/
def binary32Exponent (w : Word32) : Nat := (w.extractLsb' 23 8).toNat

/-- The fraction `w[22:0]` (R85). -/
def binary32Fraction (w : Word32) : Nat := (w.extractLsb' 0 23).toNat

/-- The kinds of R173. -/
inductive Binary32Class where
  | nan (quiet : Bool)
  | infinity
  | normal
  | subnormal
  | zero
  deriving DecidableEq, Repr

/-- The kind of a pattern (R173); quiet when `F[22] = 1`. -/
def binary32Class (w : Word32) : Binary32Class :=
  if binary32Exponent w = 255 then
    if binary32Fraction w = 0 then .infinity else .nan (w.getLsbD 22)
  else if binary32Exponent w = 0 then
    if binary32Fraction w = 0 then .zero else .subnormal
  else .normal

/-- The value of a finite pattern (R173), none for a NaN and an infinity. Both zeros have the value
0: equality of patterns, not of values, is what R179 asks for. -/
def binary32Value (w : Word32) : Option ℚ :=
  let sign : ℚ := if binary32Sign w then -1 else 1
  match binary32Class w with
  | .nan _ => none
  | .infinity => none
  | .normal =>
    some (sign * 2 ^ ((binary32Exponent w : ℤ) - 127) * (1 + binary32Fraction w / 2 ^ 23))
  | .subnormal => some (sign * 2 ^ (-126 : ℤ) * (binary32Fraction w / 2 ^ 23))
  | .zero => some 0

end Sys2Proof.Machine
end

