-- ==== Sys2Proof/Machine/Incremental.lean ====
section
/-! DEFINITION. The implementation that 10_state.md R35 permits, to be compared with the model: a
running `crc` register, cleared by SYNC, advanced by one CRC8_BYTE with every payload byte stored,
and compared with the incoming byte at CLOSE. It is not the model. -/

namespace Sys2Proof.Machine

/-- The implementation's state: the architectural state and the running register. -/
structure Incremental where
  core : State
  crc : Byte
  deriving DecidableEq, Repr

/-- One byte in the incremental implementation (R35). -/
def Incremental.feed (i : Incremental) (b : Byte) : Incremental :=
  if i.core.cursor = 0 then
    if b = Config.syncByte then { core := syncOp i.core.beginStep, crc := Config.crcInit }
    else { core := i.core.beginStep, crc := i.crc }
  else if i.core.cursor.val ≤ 16 then
    { core := storeOp b i.core.beginStep, crc := crc8Byte i.crc b }
  else
    { core := settleFrame (i.core.beginStep.closed b)
        (if i.crc = b then
          .ok (decodeFields (i.core.beginStep.writeByte 17 b).readFrame)
        else .checksumMismatch)
      crc := i.crc }

/-- The incremental implementation over a finite sequence of bytes. -/
def Incremental.feedAll (i : Incremental) (bytes : List Byte) : Incremental :=
  bytes.foldl Incremental.feed i

end Sys2Proof.Machine
end

