-- ==== Sys2Proof/Machine/Ports.lean ====
section
/-! DEFINITION. The output ports (10_state.md R36): what the environment can see of a state. -/

namespace Sys2Proof.Machine

/-- The output ports of R36. `meas` is `meas_valid` with the five `meas_*` data ports, which carry
no meaning while `meas_valid = 0` (R38). -/
structure PortsOut where
  inReady : Bool
  meas : Option Measurement
  poseX : Word32
  poseY : Word32
  poseZ : Word32
  poseValid : Bool
  deriving DecidableEq, Repr

/-- The output ports in a state: `in_ready` held at 1 (R37 permits it, log 3), the strobe of this
step (R38), and the cache shown continuously (R39). The buffer and the cursor are seen by nobody
(R8, R22, R25). -/
def State.portsOut (s : State) : PortsOut where
  inReady := true
  meas := s.meas
  poseX := s.lastX
  poseY := s.lastY
  poseZ := s.lastZ
  poseValid := s.poseValid

/-- `meas_valid` (R36, R38). -/
def State.measValid (s : State) : Bool := s.portsOut.meas.isSome

end Sys2Proof.Machine
end

