-- ==== Sys2Proof/Safety.lean ====
section
/-! DEFINITION. What counts as a safe state and how statements compare states: the invariant of the
core (40_frame_assembler.md R118, 10_state.md R23, R24, R29) and the parts of a state. -/

namespace Sys2Proof

/-- A frame with one bit of one byte flipped (R148). -/
def Frame.flipBit (f : Frame) (i : FrameIndex) (k : Fin 8) : Frame :=
  f.set i (f[i] ^^^ (1#8 <<< k.val))

/-- A payload with exactly one bit set, as a frame: bit `k` of index `i`, all else zero (R148). -/
def Frame.oneBit (i : FrameIndex) (k : Fin 8) : Frame :=
  (Vector.replicate 18 0#8).set i (1#8 <<< k.val)

/-- Bytewise XOR of two frames (R148). -/
def Frame.xor (f g : Frame) : Frame := Vector.zipWith (· ^^^ ·) f g

end Sys2Proof

namespace Sys2Proof.Machine

/-- The invariant at step boundaries. -/
structure State.Inv (s : State) : Prop where
  /-- The buffer is in its canonical form (Memory.wf). -/
  bufWf : Memory.wf s.buf
  /-- While accumulating, index 0 holds the sync byte (R23, R118 (b)). -/
  syncHeld : s.cursor ≠ 0 → Memory.lookup s.buf 0 = some Config.syncByte
  /-- Every index below the cursor has been written (R24: no stale byte is ever read). -/
  windowWritten : ∀ i : Nat, i < s.cursor.val → (Memory.lookup s.buf i).isSome
  /-- Every emitted measurement carries the source tag (R82). -/
  tagged : ∀ m ∈ s.emitted, m.sourceTag = Config.sourceTag
  /-- While `pose_valid = 1` the cache is the x, y, z of the latest emission (R29). -/
  poseLatest : s.poseValid = true →
    ∃ m, s.emitted.getLast? = some m ∧ s.lastX = m.x ∧ s.lastY = m.y ∧ s.lastZ = m.z
  /-- A strobe shows the latest emission (R38). -/
  strobeLatest : ∀ m, s.meas = some m → s.emitted.getLast? = some m

/-- The last-pose cache: three registers and the flag (R28, R29). -/
structure Pose where
  x : Word32
  y : Word32
  z : Word32
  valid : Bool
  deriving DecidableEq, Repr

/-- The cache of a state. -/
def State.pose (s : State) : Pose where
  x := s.lastX
  y := s.lastY
  z := s.lastZ
  valid := s.poseValid

/-- The cache that CACHE_UPDATE writes (R176). -/
def Pose.ofMeasurement (m : Measurement) : Pose where
  x := m.x
  y := m.y
  z := m.z
  valid := true

/-- A state with another cache: nothing else differs. -/
def State.withPose (s : State) (p : Pose) : State :=
  { s with lastX := p.x, lastY := p.y, lastZ := p.z, poseValid := p.valid }

/-- `s` and `t` differ at most in the buffer, and there only at index `i`: every other index reads
as before. -/
def State.OnlyBufferAt (i : FrameIndex) (s t : State) : Prop :=
  t = { s with buf := t.buf } ∧ ∀ j : FrameIndex, j ≠ i → t.readByte j = s.readByte j

/-- `s` and `t` agree on the bytes of the window in progress (R24): same cursor, same bytes below
it. Stale bytes may differ. -/
def State.SameWindow (s t : State) : Prop :=
  s.cursor = t.cursor ∧ ∀ i : FrameIndex, i < s.cursor → s.readByte i = t.readByte i

/-- The samples of the input ports that offer these bytes, one a step (R37). -/
def bytesOffered (bytes : List Byte) : List PortSample := bytes.map PortSample.ofByte

/-- One element of a stream: noise, then a frame with four values (R95, R121). -/
structure Segment where
  noise : List Byte
  x : Word32
  y : Word32
  z : Word32
  stdDev : Word32
  deriving DecidableEq, Repr

/-- The bytes of a segment: its noise, then its frame with the correct checksum. -/
def Segment.bytes (g : Segment) : List Byte :=
  g.noise ++ (encodeFrame g.x g.y g.z g.stdDev).toList

/-- The measurement that a segment's frame decodes to. -/
def Segment.measurement (g : Segment) : Measurement where
  x := g.x
  y := g.y
  z := g.z
  stdDev := g.stdDev
  sourceTag := Config.sourceTag

end Sys2Proof.Machine
end

