-- ==== Sys2Proof/Certificates/Slice0/Obligations.lean ====
section
/-! DEFINITION. The statements about the core, for the provers. Each docstring names the rule of the
spec it formalises. No statement rests on a free value (logs 4, 5, 6, 8): reads of unwritten buffer
bytes, the pose registers after a reset and the source tag are whatever they are. -/

open Sys2Proof Sys2Proof.Machine

/-! Encoding and decoding. -/

/-- Words written out from R86, R80, R91 and R94 decode to the instructions they stand for: a sync
byte and noise in SEARCH, `0xA5` as data and as a checksum in ACCUM, the frame F2, the FRAME of
R94's example and its BADFRAME. That a reset which coincides with a byte decodes to RESET is a
choice, the spec's decision D14 (log 17). -/
def Obligations.WrittenWordsDecode : Prop :=
  decodeByte 0 0b10100101#8 = .sync ∧
  decodeByte 0 0b01011010#8 = .drop 0x5A#8 ∧
  decodeByte 5 0b10100101#8 = .store 0xA5#8 ∧
  decodeByte 17 0b10100101#8 = .close 0xA5#8 ∧
  decodePorts 9 { rst := true, inValid := true, inData := 0xA5#8 } = some .reset ∧
  decodeFrame [0xA5#8, 0x00#8, 0x00#8, 0xC0#8, 0xBF#8, 0x00#8, 0x00#8, 0x80#8, 0x3E#8,
      0x00#8, 0x00#8, 0xC8#8, 0x42#8, 0xCD#8, 0xCC#8, 0xCC#8, 0x3D#8, 0x1D#8] =
    .ok (.frame18 0xBFC00000#32 0x3E800000#32 0x42C80000#32 0x3DCCCCCD#32 0x1D#8) ∧
  decodeListing [0xA5#8, 0x00#8, 0x00#8, 0x80#8, 0x3F#8, 0x00#8, 0x00#8, 0x00#8, 0x40#8,
      0x00#8, 0x00#8, 0x40#8, 0x40#8, 0x00#8, 0x00#8, 0x80#8, 0x3F#8, 0xD5#8] =
    .ok (.frame 0x3F800000#32 0x40000000#32 0x40400000#32 0x3F800000#32) ∧
  decodeListing [0xA5#8, 0x00#8, 0x00#8, 0x80#8, 0x3F#8, 0x00#8, 0x00#8, 0x00#8, 0x40#8,
      0x00#8, 0x00#8, 0x40#8, 0x40#8, 0x00#8, 0x00#8, 0x80#8, 0x3F#8, 0xD4#8] =
    .ok (.badframe 0x3F800000#32 0x40000000#32 0x40400000#32 0x3F800000#32 0xD4#8)

/-- The operation map of R86 read both ways: the pair (`cursor`, `b`) selects exactly the
well-formed byte-step operation whose cursor condition holds and whose byte is `b`. -/
def Obligations.ByteMapIsExact : Prop :=
  ∀ (c : FrameIndex) (b : Byte) (i : Instr),
    decodeByte c b = i ↔ (i.selectedAt c = true ∧ i.wellFormed = true ∧ encode i = some [b])

/-- Decode and encode agree, with every operand at every value the encoding admits (R80, R86, R91,
R94): byte-step operations under a cursor that selects them, RESET on the ports, the frame format,
and the three pseudo-instructions. -/
def Obligations.DecodeEncodeAgree : Prop :=
  (∀ (i : Instr) (c : FrameIndex), i.wellFormed = true → i.selectedAt c = true →
    (∃ b, encode i = some [b] ∧ decodeByte c b = i) ∧
    (∃ p, encodePorts i = some p ∧ decodePorts c p = some i)) ∧
  (∀ c : FrameIndex, ∃ p, encodePorts .reset = some p ∧ decodePorts c p = some .reset) ∧
  (∀ (x y z s : Word32) (k : Byte), ∃ bs, encode (.frame18 x y z s k) = some bs ∧
    decodeFrame bs = .ok (.frame18 x y z s k)) ∧
  (∀ x y z s : Word32, ∃ bs, encode (.frame x y z s) = some bs ∧
    decodeListing bs = .ok (.frame x y z s)) ∧
  (∀ (x y z s : Word32) (k : Byte), (Instr.badframe x y z s k).wellFormed = true →
    ∃ bs, encode (.badframe x y z s k) = some bs ∧
      decodeListing bs = .ok (.badframe x y z s k)) ∧
  (∀ bytes : List Byte, (Instr.noise bytes).wellFormed = true →
    ∃ bs, encode (.noise bytes) = some bs ∧ decodeListing bs = .ok (.noise bytes))

/-- The frame format decoder accepts exactly the 18-byte listings that begin with the sync byte
(R80), keeps every bit of them, and names why it rejects the others. -/
def Obligations.FrameFormatIsExact : Prop :=
  ∀ bs : List Byte,
    (bs.length ≠ 18 → decodeFrame bs = .error .badLength) ∧
    (bs.length = 18 → bs.head? ≠ some 0xA5#8 → decodeFrame bs = .error .noSync) ∧
    (bs.length = 18 → bs.head? = some 0xA5#8 →
      ∃ i, decodeFrame bs = .ok i ∧ i.wellFormed = true ∧ encode i = some bs)

/-! The step. -/

/-- A step runs the decoded instruction (R6, R86; the port rendering is the spec's decision D3, log
2): what the next sample of the input
ports selects under the cursor is well formed and is executed after the sample was taken and the
strobe of the step before has ended; an idle sample, or no sample, executes nothing. -/
def Obligations.StepRunsDecoded : Prop :=
  (∀ (s : State) (p : PortSample) (rest : List PortSample), s.input = p :: rest →
    (∀ i, decodePorts s.cursor p = some i → i.wellFormed = true ∧
      step s = exec i { s with meas := none, ret := .none, input := rest }) ∧
    (decodePorts s.cursor p = none →
      step s = .next { s with meas := none, ret := .none, input := rest })) ∧
  (∀ s : State, s.input = [] → step s = .next { s with meas := none, ret := .none })

/-- R88 carried over to the input ports: whatever samples come (bytes, resets, idle samples), in
whatever state, the core takes a next state for each of them, one sample a step, and is in SEARCH or
in ACCUM afterwards; it never faults and never refuses. R88 speaks of bytes; the samples, and that a
step takes one of them, are a choice, the spec's port rendering (decision D3, logs 2 and 3). -/
def Obligations.NoInputStopsTheCore : Prop :=
  ∀ (samples rest : List PortSample) (s : State), s.input = samples ++ rest →
    ∃ t : State, Host.Core.run Sys2Proof.core samples.length s = .next t ∧ t.input = rest ∧
      (t.mode = .search ∧ t.cursor = 0 ∨ t.mode = .accum ∧ 1 ≤ t.cursor.val ∧ t.cursor.val ≤ 17)

/-- A byte-step operation executed on its own where R86 does not select it (or DROP of the sync
byte) is refused by its own name. The refusal is the model's choice, log 12: the spec selects another
operation there. -/
def Obligations.UnselectedByteStepRefused : Prop :=
  ∀ (i : Instr) (s : State), (∃ b, encode i = some [b] ∧ ∃ c : FrameIndex, i.selectedAt c = true) →
    (i.selectedAt s.cursor = false ∨ i.wellFormed = false) → exec i s = .refused .notSelected

/-! The Frame Assembler family (40_frame_assembler.md). -/

/-- R111: DROP, in SEARCH on any byte but the sync byte, changes nothing at all; the outcome label
is DROP and the failure kind absorbed is sync loss. -/
def Obligations.DropChangesNothing : Prop :=
  ∀ (s : State) (b : Byte), s.cursor = 0 → b ≠ 0xA5#8 →
    exec (.drop b) s = .next s ∧ s.label b = .drop ∧ s.failure b = some .syncLoss

/-- R112: SYNC stores `0xA5` at index 0 and sets the cursor to 1; every other byte of the buffer
reads as before and nothing else changes. -/
def Obligations.SyncOpensWindow : Prop :=
  ∀ s : State, s.cursor = 0 → ∃ t : State, exec .sync s = .next t ∧
    t.readByte 0 = 0xA5#8 ∧ (∀ j : FrameIndex, j ≠ 0 → t.readByte j = s.readByte j) ∧
    t = { s with buf := t.buf, cursor := 1 } ∧ s.label 0xA5#8 = .sync

/-- R113: STORE stores its byte, whatever it is, at index `cursor` and advances the cursor by one;
every other byte of the buffer reads as before and nothing else changes. -/
def Obligations.StoreWritesAtCursor : Prop :=
  ∀ (s : State) (b : Byte), 1 ≤ s.cursor.val → s.cursor.val ≤ 16 →
    ∃ t : State, exec (.store b) s = .next t ∧
      t.readByte s.cursor = b ∧ (∀ j : FrameIndex, j ≠ s.cursor → t.readByte j = s.readByte j) ∧
      t.cursor.val = s.cursor.val + 1 ∧ t = { s with buf := t.buf, cursor := t.cursor } ∧
      s.label b = .store

/-- R114: CLOSE stores its byte at index 17 and sets the cursor to 0. If the byte is the CRC of
indices 1..16, the four fields are emitted with the source tag and x, y, z are cached with
`pose_valid = 1`; if not, nothing else changes. In both cases the buffer keeps the closed window. -/
def Obligations.CloseSettlesTheWindow : Prop :=
  ∀ (s : State) (b : Byte) (f : Frame), s.cursor = 17 →
    (∀ j : FrameIndex, f[j] = if j = 17 then b else s.readByte j) →
    ∃ t : State, exec (.close b) s = .next t ∧ t.cursor = 0 ∧
      (∀ j : FrameIndex, t.readByte j = f[j]) ∧
      (crc8Payload f = b → s.label b = .emit ∧ ∃ m : Measurement,
        m.x = f32le f[1] f[2] f[3] f[4] ∧ m.y = f32le f[5] f[6] f[7] f[8] ∧
        m.z = f32le f[9] f[10] f[11] f[12] ∧ m.stdDev = f32le f[13] f[14] f[15] f[16] ∧
        m.sourceTag = Config.sourceTag ∧
        t = { s with buf := t.buf, cursor := 0, meas := some m, emitted := s.emitted ++ [m],
                     lastX := m.x, lastY := m.y, lastZ := m.z, poseValid := true }) ∧
      (crc8Payload f ≠ b → s.label b = .reject ∧ s.failure b = some .checksumMismatch ∧
        t = { s with buf := t.buf, cursor := 0 })

/-- The transition table R115 for `Feed` of one byte: where the cursor goes, and that a measurement
is emitted exactly when the 18th byte of a window is the CRC of its payload. -/
def Obligations.FeedFollowsTransitionTable : Prop :=
  ∀ (s : State) (b : Byte),
    (s.cursor = 0 → b ≠ 0xA5#8 → (s.feed b).cursor = 0 ∧ (s.feed b).emitted = s.emitted) ∧
    (s.cursor = 0 → b = 0xA5#8 → (s.feed b).cursor = 1 ∧ (s.feed b).emitted = s.emitted) ∧
    (1 ≤ s.cursor.val → s.cursor.val ≤ 16 →
      (s.feed b).cursor.val = s.cursor.val + 1 ∧ (s.feed b).emitted = s.emitted) ∧
    (s.cursor = 17 → s.label b = .emit → (s.feed b).cursor = 0 ∧
      ∃ m, (s.feed b).emitted = s.emitted ++ [m] ∧ (s.feed b).meas = some m) ∧
    (s.cursor = 17 → s.label b ≠ .emit →
      s.label b = .reject ∧ (s.feed b).cursor = 0 ∧ (s.feed b).emitted = s.emitted ∧
        (s.feed b).pose = s.pose)

/-- A step on a sample that offers a byte is `Feed` (R110) of that byte, in every state. That a step
happens on an offered byte is a choice, R37's port rendering (the spec's decision D3, log 2) with
`in_ready` held at 1 (log 3). -/
def Obligations.StepOnAByteIsFeed : Prop :=
  ∀ (s : State) (b : Byte) (rest : List PortSample), s.input = PortSample.ofByte b :: rest →
    step s = .next { s.feed b with input := rest }

/-- R123: the assembler, which gives the completed frame away, composed with the validator is
`Feed`. -/
def Obligations.AssemblerThenValidatorIsFeed : Prop :=
  ∀ (s : State) (b : Byte),
    (s.beginStep.assemble b).1.consume (s.beginStep.assemble b).2 = s.feed b

/-! The CRC-8 validator family (41_crc8_validator.md). -/

/-- R140 bit by bit: with `mix` the XOR of the two low bits, the new `crc` is the old one shifted
right by one with `mix` XORed into bits 7, 3 and 2 (the bits of `0x8C`), and `byte` is halved. The
operation gives both back and changes nothing else. -/
def Obligations.CrcBitStep : Prop :=
  ∀ (crc byte : Byte) (s : State), ∃ crc' byte' : Byte,
    exec (.crc8Bit crc byte) s = .next { s with ret := .bit crc' byte' } ∧
    (∀ k : Nat, k < 8 → crc'.getLsbD k =
      (crc.getLsbD (k + 1) ^^
        (decide (k = 7 ∨ k = 3 ∨ k = 2) && (crc.getLsbD 0 ^^ byte.getLsbD 0)))) ∧
    byte'.toNat = byte.toNat / 2

/-- R141: CRC8_BYTE is eight applications of CRC8_BIT to the pair, after which the copied byte is 0;
it gives the CRC back and changes nothing else; the CRC depends only on `crc XOR d`, and two zero
bytes give zero. -/
def Obligations.CrcByteIsEightBitSteps : Prop :=
  (∀ (crc d : Byte) (s : State), ∃ v : Byte,
    exec (.crc8Byte crc d) s = .next { s with ret := .crc v } ∧
    (fun p : Byte × Byte => crc8Bit p.1 p.2)^[8] (crc, d) = (v, 0#8) ∧
    (∀ crc' d' : Byte, crc' ^^^ d' = crc ^^^ d → crc8Byte crc' d' = v)) ∧
  crc8Byte 0#8 0#8 = 0#8

/-- R147: the table form. `CRC8_BYTE(c, d) = T[c XOR d]` for all 65536 pairs, with the 256 entries
of the table the spec prints, and `T[v] = CRC8_BYTE(0x00, v)`. -/
def Obligations.CrcTableForm : Prop :=
  crcTable.length = 256 ∧
  (∀ v : Byte, crcTable[v.toNat]? = some (crc8Byte 0#8 v)) ∧
  (∀ c d : Byte, crcTable[(c ^^^ d).toNat]? = some (crc8Byte c d))

/-- CRC8_PAYLOAD runs CRC8_BYTE from `0x00` over frame indices 1 to 16 in increasing order, with no
final XOR; indices 0 and 17 are not inputs; it gives the CRC back and changes nothing else. That the
order is increasing is the spec's decision D12 ("increasing order is the reading of this spec"),
log 10. -/
def Obligations.CrcPayloadOverIndices1To16 : Prop :=
  ∀ (f : Frame) (s : State),
    (∃ v : Byte, exec (.crc8Payload f) s = .next { s with ret := .crc v } ∧
      v = ([1, 2, 3, 4, 5, 6, 7, 8, 9, 10, 11, 12, 13, 14, 15, 16] : List FrameIndex).foldl
        (fun crc i => crc8Byte crc f[i]) 0#8) ∧
    (∀ g : Frame, (∀ i : FrameIndex, i ≠ 0 → i ≠ 17 → g[i] = f[i]) →
      crc8Payload g = crc8Payload f)

/-- R144: VALIDATE_AND_DECODE answers `Ok` of the decoded fields when the CRC of indices 1..16 is
the byte at index 17 and `Err(ChecksumMismatch)` otherwise; it never looks at index 0, changes
nothing else, and for a given payload exactly one value of the checksum byte is accepted. -/
def Obligations.ValidateComparesChecksum : Prop :=
  ∀ (f : Frame) (s : State),
    (crc8Payload f = f[17] → exec (.validateAndDecode f) s =
      .next { s with ret := .verdict (.ok
        { x := f32le f[1] f[2] f[3] f[4], y := f32le f[5] f[6] f[7] f[8],
          z := f32le f[9] f[10] f[11] f[12], stdDev := f32le f[13] f[14] f[15] f[16],
          sourceTag := Config.sourceTag }) }) ∧
    (crc8Payload f ≠ f[17] →
      exec (.validateAndDecode f) s = .next { s with ret := .verdict .checksumMismatch }) ∧
    (∀ b : Byte, validateAndDecode (f.set 0 b) = validateAndDecode f) ∧
    (∃! k : Byte, validateAndDecode (f.set 17 k) ≠ .checksumMismatch)

/-- R145: REJECT changes nothing. -/
def Obligations.RejectChangesNothing : Prop :=
  ∀ s : State, exec .reject s = .next s

/-- R148: the CRC is linear over XOR; the 128 payloads with one bit set have non-zero CRCs that take
127 distinct values; flipping one bit of indices 1..17 of a valid frame gives a frame that is
rejected. -/
def Obligations.CrcDetectsSingleBitErrors : Prop :=
  (∀ f g : Frame, crc8Payload (f.xor g) = crc8Payload f ^^^ crc8Payload g) ∧
  (∀ (i : FrameIndex) (k : Fin 8), 1 ≤ i.val → i.val ≤ 16 →
    crc8Payload (Frame.oneBit i k) ≠ 0#8) ∧
  (((List.finRange 16).flatMap fun p => (List.finRange 8).map fun k =>
    crc8Payload (Frame.oneBit p.succ.castSucc k)).dedup.length = 127) ∧
  (∀ (f : Frame) (i : FrameIndex) (k : Fin 8), crc8Payload f = f[17] → i ≠ 0 →
    validateAndDecode (f.flipBit i k) = .checksumMismatch)

/-- R149: leading zero bytes leave the CRC at `0x00`, so sixteen zero bytes have the CRC `0x00`, and
the window `A5` followed by seventeen `00` is a valid frame that decodes to four patterns of zero. -/
def Obligations.ZeroPayloadIsValid : Prop :=
  (∀ (n : Nat) (bs : List Byte), crc8List 0#8 (List.replicate n 0#8 ++ bs) = crc8List 0#8 bs) ∧
  crc8List 0#8 (List.replicate 16 0#8) = 0#8 ∧
  validateAndDecode (#v[0xA5#8] ++ Vector.replicate 17 0#8) =
    .ok { x := 0#32, y := 0#32, z := 0#32, stdDev := 0#32, sourceTag := Config.sourceTag }

/-! The float decoder and emission family (42_float_decoder_emit.md). -/

/-- R170: F32LE gives back the pattern `b3 b2 b1 b0`, whose unsigned value weighs the bytes by 1,
2^8, 2^16, 2^24 in order of increasing frame index; it changes nothing else; and every one of the
2^32 patterns is the result for some bytes. -/
def Obligations.F32leIsLittleEndian : Prop :=
  (∀ (b0 b1 b2 b3 : Byte) (s : State), ∃ w : Word32,
    exec (.f32le b0 b1 b2 b3) s = .next { s with ret := .word w } ∧
    w = b3 ++ b2 ++ b1 ++ b0 ∧
    w.toNat = b0.toNat + 2 ^ 8 * b1.toNat + 2 ^ 16 * b2.toNat + 2 ^ 24 * b3.toNat) ∧
  (∀ (w : Word32) (s : State), ∃ b0 b1 b2 b3 : Byte,
    exec (.f32le b0 b1 b2 b3) s = .next { s with ret := .word w })

/-- DECODE gives back the four fields of indices 1..4, 5..8, 9..12, 13..16, each the concatenation
of its bytes with the last one on top, and the source tag; it changes nothing else. R171 says so of a
frame whose checksum matched; that DECODE executed on its own does the same on every other frame is
the model's choice, log 19. -/
def Obligations.DecodeTakesTheFourFields : Prop :=
  ∀ (f : Frame) (s : State), ∃ m : Measurement,
    exec (.decode f) s = .next { s with ret := .measurement m } ∧
    m.x = f[4] ++ f[3] ++ f[2] ++ f[1] ∧ m.y = f[8] ++ f[7] ++ f[6] ++ f[5] ∧
    m.z = f[12] ++ f[11] ++ f[10] ++ f[9] ∧ m.stdDev = f[16] ++ f[15] ++ f[14] ++ f[13] ∧
    m.sourceTag = Config.sourceTag

/-- EMIT appends its measurement to the emitted list and drives the measurement ports; nothing else
changes, and the sink answers nothing. R175 says so of a measurement that carries `SOURCE_TAG` (R82);
that EMIT executed on its own does the same with every other tag is the model's choice, log 19. -/
def Obligations.EmitAppendsOneMeasurement : Prop :=
  ∀ (m : Measurement) (s : State),
    exec (.emit m) s = .next { s with meas := some m, emitted := s.emitted ++ [m] }

/-- CACHE_UPDATE writes x, y, z bit for bit and sets `pose_valid`; stdDev is not stored and nothing
else changes. R176 says so of the measurement of a CLOSE, which carries `SOURCE_TAG` (R82); that
CACHE_UPDATE executed on its own does the same with every other tag is the model's choice, log 19. -/
def Obligations.CacheUpdateWritesThePose : Prop :=
  ∀ (m : Measurement) (s : State),
    exec (.cacheUpdate m) s =
      .next { s with lastX := m.x, lastY := m.y, lastZ := m.z, poseValid := true }

/-! Reset (70_reset_and_hazards.md). -/

/-- The RESET operation: it sets the cursor to 0 and clears `pose_valid`, in every state, and emits
nothing. That `pose_valid` is cleared is the spec's decision D7, the kind of reset its decision D14.
What the sink has received and what is still to come on the input ports are not the core's (log 8).
The buffer and the pose registers are left open, and nothing is said of them. -/
def Obligations.ResetClearsCursorAndFlag : Prop :=
  ∀ s : State, ∃ t : State, exec .reset s = .next t ∧ t.cursor = 0 ∧ t.poseValid = false ∧
    t.emitted = s.emitted ∧ t.meas = none ∧ t.input = s.input

/-- Reset against a byte (the spec's decision D14, log 17): in a step with `rst = 1` the core is reset and the byte on `in_data` is not consumed: the
state after it is the same whatever the byte and whether or not one is offered. -/
def Obligations.ResetWinsOverByte : Prop :=
  ∀ (s : State) (rest : List PortSample), ∃ t : State,
    t.cursor = 0 ∧ t.poseValid = false ∧ t.emitted = s.emitted ∧ t.meas = none ∧ t.input = rest ∧
    ∀ (valid : Bool) (b : Byte),
      step { s with input := { rst := true, inValid := valid, inData := b } :: rest } = .next t

/-- What the spec fixes of the state after reset: SEARCH with cursor 0, `pose_valid = 0` (decision
D7), no emission. The buffer and the pose registers are left open (decisions D6, D7; logs 4, 5). -/
def Obligations.ResetStateValues : Prop :=
  State.reset.cursor = 0 ∧ State.reset.poseValid = false ∧ State.reset.meas = none ∧
  State.reset.emitted = [] ∧ State.reset.mode = .search ∧ State.reset.measValid = false

/-! The pseudo-instructions and the frame format (30_encoding.md R94, R80, R120). -/

/-- R178: from any state with `cursor = 0`, FRAME(x, y, z, s), that is feeding EncodeFrame(x, y, z,
s), emits one measurement with those four patterns unchanged, for all 2^128 quadruples; the pose is
cached, the cursor is 0 again, the buffer holds the frame, and nothing else is touched. -/
def Obligations.FrameRoundTrip : Prop :=
  ∀ (x y z st : Word32) (s : State), s.cursor = 0 →
    ∃ t : State, exec (.frame x y z st) s = .next t ∧
      (∀ j : FrameIndex, t.readByte j = (encodeFrame x y z st)[j]) ∧
      t = { s with buf := t.buf, cursor := 0, lastX := x, lastY := y, lastZ := z,
                   poseValid := true, ret := .none,
                   meas := some ⟨x, y, z, st, Config.sourceTag⟩,
                   emitted := s.emitted ++ [⟨x, y, z, st, Config.sourceTag⟩] }

/-- R94 and R120: from any state with `cursor = 0`, a well-formed BADFRAME emits nothing and leaves
the cache alone; the cursor is 0 again and the buffer holds the rejected window. -/
def Obligations.BadframeIsRejected : Prop :=
  ∀ (x y z st : Word32) (k : Byte) (s : State), s.cursor = 0 →
    (Instr.badframe x y z st k).wellFormed = true →
    ∃ t : State, exec (.badframe x y z st k) s = .next t ∧
      (∀ j : FrameIndex, t.readByte j = (frameOf x y z st k)[j]) ∧
      t = { s with buf := t.buf, cursor := 0, meas := none, ret := .none }

/-- R120 on the frame format, whatever its payload and checksum byte: from `cursor = 0` the window
takes the 18 bytes one a step (cursor `n` after `n` of them); the measurement is emitted and cached
when the checksum byte is the CRC of the payload, and the window is rejected when it is not. That
FRAME18 executed on its own is its 18 bytes is the model's choice, log 13. -/
def Obligations.AlignedFrameSettles : Prop :=
  ∀ (x y z st : Word32) (k : Byte) (s : State), s.cursor = 0 →
    (∀ n : Nat, n ≤ 17 →
      (s.feedAll ((frameOf x y z st k).toList.take n)).cursor.val = n ∧
      (s.feedAll ((frameOf x y z st k).toList.take n)).emitted = s.emitted) ∧
    ∃ t : State, exec (.frame18 x y z st k) s = .next t ∧
      (∀ j : FrameIndex, t.readByte j = (frameOf x y z st k)[j]) ∧
      (k = crc8Payload (frameOf x y z st k) →
        t = { s with buf := t.buf, cursor := 0, lastX := x, lastY := y, lastZ := z,
                     poseValid := true, ret := .none,
                     meas := some ⟨x, y, z, st, Config.sourceTag⟩,
                     emitted := s.emitted ++ [⟨x, y, z, st, Config.sourceTag⟩] }) ∧
      (k ≠ crc8Payload (frameOf x y z st k) →
        t = { s with buf := t.buf, cursor := 0, meas := none, ret := .none })

/-- R119: in SEARCH, noise of any length changes nothing and emits nothing; only the strobe of the
step before the noise is over. -/
def Obligations.NoiseIsTransparent : Prop :=
  ∀ (bytes : List Byte) (s : State), s.cursor = 0 → (∀ b ∈ bytes, b ≠ 0xA5#8) →
    (s.run bytes).2 = [] ∧
    ∃ t : State, exec (.noise bytes) s = .next t ∧
      (bytes = [] → t = s) ∧ (bytes ≠ [] → t = { s with meas := none, ret := .none })

/-- A pseudo-instruction is an abbreviation for bytes and nothing more (R94): in every state it does
what the steps do in which its bytes arrive on the input ports. That FRAME18, and a listing that R94
rules out as ill-formed, executed on their own are their bytes as well is the model's choice, log 13;
bytes arriving as port samples are the spec's decision D3 (log 2). -/
def Obligations.PseudoInstructionIsItsBytes : Prop :=
  ∀ (i : Instr) (bytes : List Byte), encode i = some bytes →
    (∀ c : FrameIndex, i.selectedAt c = false) →
    ∀ (s : State) (rest : List PortSample), ∃ t : State, exec i s = .next t ∧
      Host.Core.run Sys2Proof.core bytes.length
        { s with input := bytesOffered bytes ++ rest } = .next { t with input := rest }

/-! Properties of runs (R8, R118 to R122). -/

/-- R8: `Run` is the repeated `Feed` together with exactly the measurements the sink receives. -/
def Obligations.RunListsTheEmissions : Prop :=
  ∀ (bytes : List Byte) (s : State),
    (s.run bytes).1 = s.feedAll bytes ∧ (s.feedAll bytes).emitted = s.emitted ++ (s.run bytes).2

/-- R115 and R122: once `0xA5` has been taken as sync, exactly 17 further bytes are absorbed,
whatever they are: after `n` of them the cursor is `n + 1`, and after the 17th the core is in SEARCH
again, having emitted at most one measurement. -/
def Obligations.WindowAbsorbsSeventeenBytes : Prop :=
  ∀ (bytes : List Byte) (s : State), s.cursor = 0 →
    (bytes.length ≤ 16 → (s.feedAll (0xA5#8 :: bytes)).cursor.val = bytes.length + 1 ∧
      (s.run (0xA5#8 :: bytes)).2 = []) ∧
    (bytes.length = 17 → (s.feedAll (0xA5#8 :: bytes)).cursor = 0 ∧
      (s.run (0xA5#8 :: bytes)).2.length ≤ 1)

/-- R118 (e): over any bytes, at most one measurement for 18 bytes, counting those the window in
progress already holds. -/
def Obligations.AtMostOneEmissionPerEighteenBytes : Prop :=
  ∀ (bytes : List Byte) (s : State),
    18 * (s.run bytes).2.length ≤ s.cursor.val + bytes.length

/-- R121: from `cursor = 0`, any number of valid frames with any noise before each of them emits
exactly one measurement a frame, in order and with the values encoded, each at the last byte of its
frame and not before. -/
def Obligations.BackToBackFramesAllDecoded : Prop :=
  ∀ (segs : List Segment) (s : State), s.cursor = 0 →
    (∀ g ∈ segs, ∀ b ∈ g.noise, b ≠ 0xA5#8) →
    (s.run (segs.flatMap Segment.bytes)).2 = segs.map Segment.measurement ∧
    (s.run (segs.flatMap Segment.bytes)).1.cursor = 0 ∧
    ∀ g : Segment, (∀ b ∈ g.noise, b ≠ 0xA5#8) →
      (s.run (segs.flatMap Segment.bytes ++ g.bytes.dropLast)).2 = segs.map Segment.measurement

/-- R122 (with conflict C3): after a stray `0xA5` and 17 bytes that do not close a valid window, the
first genuine frame that begins at or after the end of the false window, with only noise between,
is decoded, and it is the only one. -/
def Obligations.RecoversAfterFalseWindow : Prop :=
  ∀ (f : Frame) (g : Segment) (s : State), s.cursor = 0 → f[0] = 0xA5#8 → crc8Payload f ≠ f[17] →
    (∀ b ∈ g.noise, b ≠ 0xA5#8) →
    (s.run (f.toList ++ g.bytes)).2 = [g.measurement]

/-- Emission and cache update (R118 (c), (d); that both happen together is the spec's decision D17,
log 16): a step either emits nothing and leaves the cache alone, or is a reset that emits nothing, or
takes the byte that closes a window with a matching CRC (its outcome label is EMIT), emits one
measurement and puts the x, y, z of that same measurement into the cache. -/
def Obligations.EmissionAndCacheGoTogether : Prop :=
  ∀ s t : State, step s = .next t →
    (t.emitted = s.emitted ∧ t.pose = s.pose ∧ t.meas = none) ∨
    (s.nextInstr = some .reset ∧ t.emitted = s.emitted ∧ t.meas = none) ∨
    (s.cursor = 17 ∧ t.cursor = 0 ∧
      (∃ (b : Byte) (rest : List PortSample), s.input = PortSample.ofByte b :: rest ∧
        s.label b = .emit) ∧
      ∃ m : Measurement, t.emitted = s.emitted ++ [m] ∧ t.meas = some m ∧
        t.pose = .ofMeasurement m)

/-- `pose_valid`, once 1, stays 1 until a reset. That nothing but a reset clears it is the spec's
decision D8 (R29: "is otherwise this spec's choice"), log 9. -/
def Obligations.OnlyResetClearsPoseValid : Prop :=
  ∀ s t : State, step s = .next t → s.poseValid = true → t.poseValid = false →
    ∃ (p : PortSample) (rest : List PortSample), s.input = p :: rest ∧ p.rst = true

/-- The output ports in the spec's port rendering (decision D3, logs 3 and 14): the measurement ports strobe in a step exactly when that step emits, with the
measurement emitted, and the pose ports show the cache. -/
def Obligations.PortsShowTheStep : Prop :=
  ∀ s t : State, step s = .next t →
    (∀ m : Measurement, t.portsOut.meas = some m ↔ t.emitted = s.emitted ++ [m]) ∧
    (t.measValid = false ↔ t.emitted = s.emitted) ∧
    (t.portsOut.poseX = t.lastX ∧ t.portsOut.poseY = t.lastY ∧ t.portsOut.poseZ = t.lastZ ∧
      t.portsOut.poseValid = t.poseValid)

/-! Invariants. -/

/-- The invariant holds at reset. -/
def Obligations.InvariantHoldsAtReset : Prop := State.reset.Inv

/-- R118 (a), (b), R23, R24, R29, R82: every step keeps the invariant, from every state that meets
it: the buffer stays in its canonical form, a window begins with the sync byte and is written up to
the cursor, emissions carry the tag, and a valid cache is the latest emission. -/
def Obligations.StepKeepsInvariant : Prop :=
  ∀ s t : State, s.Inv → step s = .next t → t.Inv

/-- Every instruction executed on its own keeps the buffer's canonical form. -/
def Obligations.ExecKeepsMemoryCanonical : Prop :=
  ∀ (i : Instr) (s t : State), Memory.wf s.buf → exec i s = .next t → Memory.wf t.buf

/-! What the core does not depend on. -/

/-- R28 and R29: the core never reads the cache. With another cache before the step, the state after
it is the same but for the cache, and where the step emits, the cache after it is the same too. -/
def Obligations.CacheIsNeverRead : Prop :=
  ∀ (s t : State) (p : Pose), step s = .next t → ∃ q : Pose,
    step (s.withPose p) = .next (t.withPose q) ∧
    (t.emitted ≠ s.emitted → q = t.pose) ∧
    (t.emitted = s.emitted → s.nextInstr ≠ some .reset → q = p)

/-- R24 and R64: no stale byte is ever read. Two states with the same cursor whose windows in
progress hold the same bytes, and which may differ in every stale byte, in the cache and in every
free value, emit the same measurements on every byte sequence and stay alike. -/
def Obligations.StaleBytesAreNeverRead : Prop :=
  ∀ (bytes : List Byte) (s u : State), s.SameWindow u →
    (s.run bytes).2 = (u.run bytes).2 ∧ (s.run bytes).1.SameWindow (u.run bytes).1

/-- R35: the implementation with a running `crc` register, whatever it holds at first, is the model:
from `cursor = 0` its state after every byte sequence is the model's. -/
def Obligations.IncrementalCrcRefines : Prop :=
  ∀ (bytes : List Byte) (s : State) (crc : Byte), s.cursor = 0 →
    (Incremental.feedAll { core := s, crc := crc } bytes).core = s.feedAll bytes

/-- An idle step in the spec's port rendering (decision D3, log 2): a step with neither a reset nor a byte changes no architectural state; it ends the
strobe of the step before. -/
def Obligations.IdleStepKeepsTheCore : Prop :=
  ∀ (s : State) (b : Byte) (rest : List PortSample),
    s.input = { rst := false, inValid := false, inData := b } :: rest →
    step s = .next { s with meas := none, ret := .none, input := rest }
end

