-- ==== Sys2Proof/Laws/Crc8.lean ====
section
/-! SUPPORT. The CRC: what each of its functions depends on. -/

namespace Sys2Proof

/-- The byte that remains after a bit step is the shifted byte (R140). -/
@[simp] theorem crc8Bit_snd (crc byte : Byte) : (crc8Bit crc byte).2 = byte >>> 1 := rfl

/-- The CRC after a bit step with `mix = 1` (R140). -/
theorem crc8Bit_fst_of_mix {crc byte : Byte} (h : crc8Mix crc byte = 1) :
    (crc8Bit crc byte).1 = (crc >>> 1) ^^^ Config.crcPoly := if_pos h

/-- The CRC after a bit step with `mix = 0` (R140): a pure shift. -/
theorem crc8Bit_fst_of_not_mix {crc byte : Byte} (h : crc8Mix crc byte ≠ 1) :
    (crc8Bit crc byte).1 = crc >>> 1 := if_neg h

/-- The CRC of a list followed by another goes on from the CRC of the first. -/
theorem crc8List_append (crc : Byte) (as bs : List Byte) :
    crc8List crc (as ++ bs) = crc8List (crc8List crc as) bs := by
  simp [crc8List]

@[simp] theorem crc8List_nil (crc : Byte) : crc8List crc [] = crc := rfl

@[simp] theorem crc8List_cons (crc b : Byte) (bs : List Byte) :
    crc8List crc (b :: bs) = crc8List (crc8Byte crc b) bs := rfl

/-- CRC8_PAYLOAD depends on the payload alone (R84, R142). -/
theorem crc8Payload_congr {f g : Frame} (h : f.payload = g.payload) :
    crc8Payload f = crc8Payload g := by
  simp [crc8Payload, h]

/-- The checksum byte is no part of the payload (R84). -/
theorem Frame.payload_frameOf (x y z s : Word32) (k k' : Byte) :
    (frameOf x y z s k).payload = (frameOf x y z s k').payload := rfl

/-- The CRC of a frame of the format, whatever its checksum byte (R84, R91). -/
theorem crc8Payload_frameOf (x y z s : Word32) (k : Byte) :
    crc8Payload (frameOf x y z s k) = frameChecksum x y z s := rfl

end Sys2Proof
end

