-- ==== Sys2Proof/Laws/State.lean ====
section
/-! SUPPORT. One lemma per field per update of State, each true by rfl: no later proof unfolds a
record update. -/

namespace Sys2Proof.Machine

/-! `writeByte`: `buf[i] <- b` (R56). -/

@[simp] theorem State.writeByte_buf (s : State) (i : FrameIndex) (b : Byte) :
    (s.writeByte i b).buf = Memory.write s.buf i.val b := rfl
@[simp] theorem State.writeByte_cursor (s : State) (i : FrameIndex) (b : Byte) :
    (s.writeByte i b).cursor = s.cursor := rfl
@[simp] theorem State.writeByte_lastX (s : State) (i : FrameIndex) (b : Byte) :
    (s.writeByte i b).lastX = s.lastX := rfl
@[simp] theorem State.writeByte_lastY (s : State) (i : FrameIndex) (b : Byte) :
    (s.writeByte i b).lastY = s.lastY := rfl
@[simp] theorem State.writeByte_lastZ (s : State) (i : FrameIndex) (b : Byte) :
    (s.writeByte i b).lastZ = s.lastZ := rfl
@[simp] theorem State.writeByte_poseValid (s : State) (i : FrameIndex) (b : Byte) :
    (s.writeByte i b).poseValid = s.poseValid := rfl
@[simp] theorem State.writeByte_input (s : State) (i : FrameIndex) (b : Byte) :
    (s.writeByte i b).input = s.input := rfl
@[simp] theorem State.writeByte_meas (s : State) (i : FrameIndex) (b : Byte) :
    (s.writeByte i b).meas = s.meas := rfl
@[simp] theorem State.writeByte_emitted (s : State) (i : FrameIndex) (b : Byte) :
    (s.writeByte i b).emitted = s.emitted := rfl
@[simp] theorem State.writeByte_ret (s : State) (i : FrameIndex) (b : Byte) :
    (s.writeByte i b).ret = s.ret := rfl
@[simp] theorem State.writeByte_draws (s : State) (i : FrameIndex) (b : Byte) :
    (s.writeByte i b).draws = s.draws := rfl

/-! `setCursor`: `cursor <- v` (R10). -/

@[simp] theorem State.setCursor_buf (s : State) (v : FrameIndex) :
    (s.setCursor v).buf = s.buf := rfl
@[simp] theorem State.setCursor_cursor (s : State) (v : FrameIndex) :
    (s.setCursor v).cursor = v := rfl
@[simp] theorem State.setCursor_lastX (s : State) (v : FrameIndex) :
    (s.setCursor v).lastX = s.lastX := rfl
@[simp] theorem State.setCursor_lastY (s : State) (v : FrameIndex) :
    (s.setCursor v).lastY = s.lastY := rfl
@[simp] theorem State.setCursor_lastZ (s : State) (v : FrameIndex) :
    (s.setCursor v).lastZ = s.lastZ := rfl
@[simp] theorem State.setCursor_poseValid (s : State) (v : FrameIndex) :
    (s.setCursor v).poseValid = s.poseValid := rfl
@[simp] theorem State.setCursor_input (s : State) (v : FrameIndex) :
    (s.setCursor v).input = s.input := rfl
@[simp] theorem State.setCursor_meas (s : State) (v : FrameIndex) :
    (s.setCursor v).meas = s.meas := rfl
@[simp] theorem State.setCursor_emitted (s : State) (v : FrameIndex) :
    (s.setCursor v).emitted = s.emitted := rfl
@[simp] theorem State.setCursor_ret (s : State) (v : FrameIndex) :
    (s.setCursor v).ret = s.ret := rfl
@[simp] theorem State.setCursor_draws (s : State) (v : FrameIndex) :
    (s.setCursor v).draws = s.draws := rfl

/-! `setPoseValid`: `pose_valid <- 1` (R29). -/

@[simp] theorem State.setPoseValid_buf (s : State) : s.setPoseValid.buf = s.buf := rfl
@[simp] theorem State.setPoseValid_cursor (s : State) : s.setPoseValid.cursor = s.cursor := rfl
@[simp] theorem State.setPoseValid_lastX (s : State) : s.setPoseValid.lastX = s.lastX := rfl
@[simp] theorem State.setPoseValid_lastY (s : State) : s.setPoseValid.lastY = s.lastY := rfl
@[simp] theorem State.setPoseValid_lastZ (s : State) : s.setPoseValid.lastZ = s.lastZ := rfl
@[simp] theorem State.setPoseValid_poseValid (s : State) : s.setPoseValid.poseValid = true := rfl
@[simp] theorem State.setPoseValid_input (s : State) : s.setPoseValid.input = s.input := rfl
@[simp] theorem State.setPoseValid_meas (s : State) : s.setPoseValid.meas = s.meas := rfl
@[simp] theorem State.setPoseValid_emitted (s : State) : s.setPoseValid.emitted = s.emitted := rfl
@[simp] theorem State.setPoseValid_ret (s : State) : s.setPoseValid.ret = s.ret := rfl
@[simp] theorem State.setPoseValid_draws (s : State) : s.setPoseValid.draws = s.draws := rfl

/-! `clearPoseValid`: `pose_valid <- 0` (R230). -/

@[simp] theorem State.clearPoseValid_buf (s : State) : s.clearPoseValid.buf = s.buf := rfl
@[simp] theorem State.clearPoseValid_cursor (s : State) : s.clearPoseValid.cursor = s.cursor := rfl
@[simp] theorem State.clearPoseValid_lastX (s : State) : s.clearPoseValid.lastX = s.lastX := rfl
@[simp] theorem State.clearPoseValid_lastY (s : State) : s.clearPoseValid.lastY = s.lastY := rfl
@[simp] theorem State.clearPoseValid_lastZ (s : State) : s.clearPoseValid.lastZ = s.lastZ := rfl
@[simp] theorem State.clearPoseValid_poseValid (s : State) :
    s.clearPoseValid.poseValid = false := rfl
@[simp] theorem State.clearPoseValid_input (s : State) : s.clearPoseValid.input = s.input := rfl
@[simp] theorem State.clearPoseValid_meas (s : State) : s.clearPoseValid.meas = s.meas := rfl
@[simp] theorem State.clearPoseValid_emitted (s : State) :
    s.clearPoseValid.emitted = s.emitted := rfl
@[simp] theorem State.clearPoseValid_ret (s : State) : s.clearPoseValid.ret = s.ret := rfl
@[simp] theorem State.clearPoseValid_draws (s : State) : s.clearPoseValid.draws = s.draws := rfl

/-! `emit`: EMIT (R175). -/

@[simp] theorem State.emit_buf (s : State) (m : Measurement) : (s.emit m).buf = s.buf := rfl
@[simp] theorem State.emit_cursor (s : State) (m : Measurement) :
    (s.emit m).cursor = s.cursor := rfl
@[simp] theorem State.emit_lastX (s : State) (m : Measurement) : (s.emit m).lastX = s.lastX := rfl
@[simp] theorem State.emit_lastY (s : State) (m : Measurement) : (s.emit m).lastY = s.lastY := rfl
@[simp] theorem State.emit_lastZ (s : State) (m : Measurement) : (s.emit m).lastZ = s.lastZ := rfl
@[simp] theorem State.emit_poseValid (s : State) (m : Measurement) :
    (s.emit m).poseValid = s.poseValid := rfl
@[simp] theorem State.emit_input (s : State) (m : Measurement) : (s.emit m).input = s.input := rfl
@[simp] theorem State.emit_meas (s : State) (m : Measurement) : (s.emit m).meas = some m := rfl
@[simp] theorem State.emit_emitted (s : State) (m : Measurement) :
    (s.emit m).emitted = s.emitted ++ [m] := rfl
@[simp] theorem State.emit_ret (s : State) (m : Measurement) : (s.emit m).ret = s.ret := rfl
@[simp] theorem State.emit_draws (s : State) (m : Measurement) : (s.emit m).draws = s.draws := rfl

/-! `cacheUpdate`: CACHE_UPDATE (R176). -/

@[simp] theorem State.cacheUpdate_buf (s : State) (m : Measurement) :
    (s.cacheUpdate m).buf = s.buf := rfl
@[simp] theorem State.cacheUpdate_cursor (s : State) (m : Measurement) :
    (s.cacheUpdate m).cursor = s.cursor := rfl
@[simp] theorem State.cacheUpdate_lastX (s : State) (m : Measurement) :
    (s.cacheUpdate m).lastX = m.x := rfl
@[simp] theorem State.cacheUpdate_lastY (s : State) (m : Measurement) :
    (s.cacheUpdate m).lastY = m.y := rfl
@[simp] theorem State.cacheUpdate_lastZ (s : State) (m : Measurement) :
    (s.cacheUpdate m).lastZ = m.z := rfl
@[simp] theorem State.cacheUpdate_poseValid (s : State) (m : Measurement) :
    (s.cacheUpdate m).poseValid = true := rfl
@[simp] theorem State.cacheUpdate_input (s : State) (m : Measurement) :
    (s.cacheUpdate m).input = s.input := rfl
@[simp] theorem State.cacheUpdate_meas (s : State) (m : Measurement) :
    (s.cacheUpdate m).meas = s.meas := rfl
@[simp] theorem State.cacheUpdate_emitted (s : State) (m : Measurement) :
    (s.cacheUpdate m).emitted = s.emitted := rfl
@[simp] theorem State.cacheUpdate_ret (s : State) (m : Measurement) :
    (s.cacheUpdate m).ret = s.ret := rfl
@[simp] theorem State.cacheUpdate_draws (s : State) (m : Measurement) :
    (s.cacheUpdate m).draws = s.draws := rfl

/-! `giveBack`: the return of an internal operation. -/

@[simp] theorem State.giveBack_buf (s : State) (r : Returned) : (s.giveBack r).buf = s.buf := rfl
@[simp] theorem State.giveBack_cursor (s : State) (r : Returned) :
    (s.giveBack r).cursor = s.cursor := rfl
@[simp] theorem State.giveBack_lastX (s : State) (r : Returned) :
    (s.giveBack r).lastX = s.lastX := rfl
@[simp] theorem State.giveBack_lastY (s : State) (r : Returned) :
    (s.giveBack r).lastY = s.lastY := rfl
@[simp] theorem State.giveBack_lastZ (s : State) (r : Returned) :
    (s.giveBack r).lastZ = s.lastZ := rfl
@[simp] theorem State.giveBack_poseValid (s : State) (r : Returned) :
    (s.giveBack r).poseValid = s.poseValid := rfl
@[simp] theorem State.giveBack_input (s : State) (r : Returned) :
    (s.giveBack r).input = s.input := rfl
@[simp] theorem State.giveBack_meas (s : State) (r : Returned) : (s.giveBack r).meas = s.meas := rfl
@[simp] theorem State.giveBack_emitted (s : State) (r : Returned) :
    (s.giveBack r).emitted = s.emitted := rfl
@[simp] theorem State.giveBack_ret (s : State) (r : Returned) : (s.giveBack r).ret = r := rfl
@[simp] theorem State.giveBack_draws (s : State) (r : Returned) :
    (s.giveBack r).draws = s.draws := rfl

/-! `applyReset`: RESET (R230). -/

@[simp] theorem State.applyReset_buf (s : State) : s.applyReset.buf = [] := rfl
@[simp] theorem State.applyReset_cursor (s : State) : s.applyReset.cursor = 0 := rfl
@[simp] theorem State.applyReset_lastX (s : State) :
    s.applyReset.lastX = Config.lastXReset s.draws := rfl
@[simp] theorem State.applyReset_lastY (s : State) :
    s.applyReset.lastY = Config.lastYReset s.draws := rfl
@[simp] theorem State.applyReset_lastZ (s : State) :
    s.applyReset.lastZ = Config.lastZReset s.draws := rfl
@[simp] theorem State.applyReset_poseValid (s : State) : s.applyReset.poseValid = false := rfl
@[simp] theorem State.applyReset_input (s : State) : s.applyReset.input = s.input := rfl
@[simp] theorem State.applyReset_meas (s : State) : s.applyReset.meas = none := rfl
@[simp] theorem State.applyReset_emitted (s : State) : s.applyReset.emitted = s.emitted := rfl
@[simp] theorem State.applyReset_ret (s : State) : s.applyReset.ret = .none := rfl
@[simp] theorem State.applyReset_draws (s : State) : s.applyReset.draws = s.draws + 1 := rfl

/-! `beginStep`: the beginning of a step (R38, R34). -/

@[simp] theorem State.beginStep_buf (s : State) : s.beginStep.buf = s.buf := rfl
@[simp] theorem State.beginStep_cursor (s : State) : s.beginStep.cursor = s.cursor := rfl
@[simp] theorem State.beginStep_lastX (s : State) : s.beginStep.lastX = s.lastX := rfl
@[simp] theorem State.beginStep_lastY (s : State) : s.beginStep.lastY = s.lastY := rfl
@[simp] theorem State.beginStep_lastZ (s : State) : s.beginStep.lastZ = s.lastZ := rfl
@[simp] theorem State.beginStep_poseValid (s : State) : s.beginStep.poseValid = s.poseValid := rfl
@[simp] theorem State.beginStep_input (s : State) : s.beginStep.input = s.input := rfl
@[simp] theorem State.beginStep_meas (s : State) : s.beginStep.meas = none := rfl
@[simp] theorem State.beginStep_emitted (s : State) : s.beginStep.emitted = s.emitted := rfl
@[simp] theorem State.beginStep_ret (s : State) : s.beginStep.ret = .none := rfl
@[simp] theorem State.beginStep_draws (s : State) : s.beginStep.draws = s.draws := rfl

/-! `advance`: the sample taken (R59). -/

@[simp] theorem State.advance_buf (s : State) : s.advance.buf = s.buf := rfl
@[simp] theorem State.advance_cursor (s : State) : s.advance.cursor = s.cursor := rfl
@[simp] theorem State.advance_lastX (s : State) : s.advance.lastX = s.lastX := rfl
@[simp] theorem State.advance_lastY (s : State) : s.advance.lastY = s.lastY := rfl
@[simp] theorem State.advance_lastZ (s : State) : s.advance.lastZ = s.lastZ := rfl
@[simp] theorem State.advance_poseValid (s : State) : s.advance.poseValid = s.poseValid := rfl
@[simp] theorem State.advance_input (s : State) : s.advance.input = s.input.tail := rfl
@[simp] theorem State.advance_meas (s : State) : s.advance.meas = none := rfl
@[simp] theorem State.advance_emitted (s : State) : s.advance.emitted = s.emitted := rfl
@[simp] theorem State.advance_ret (s : State) : s.advance.ret = .none := rfl
@[simp] theorem State.advance_draws (s : State) : s.advance.draws = s.draws := rfl

/-! `offer`: bytes offered by the source. -/

@[simp] theorem State.offer_buf (s : State) (bytes : List Byte) : (s.offer bytes).buf = s.buf := rfl
@[simp] theorem State.offer_cursor (s : State) (bytes : List Byte) :
    (s.offer bytes).cursor = s.cursor := rfl
@[simp] theorem State.offer_lastX (s : State) (bytes : List Byte) :
    (s.offer bytes).lastX = s.lastX := rfl
@[simp] theorem State.offer_lastY (s : State) (bytes : List Byte) :
    (s.offer bytes).lastY = s.lastY := rfl
@[simp] theorem State.offer_lastZ (s : State) (bytes : List Byte) :
    (s.offer bytes).lastZ = s.lastZ := rfl
@[simp] theorem State.offer_poseValid (s : State) (bytes : List Byte) :
    (s.offer bytes).poseValid = s.poseValid := rfl
@[simp] theorem State.offer_input (s : State) (bytes : List Byte) :
    (s.offer bytes).input = bytes.map PortSample.ofByte ++ s.input := rfl
@[simp] theorem State.offer_meas (s : State) (bytes : List Byte) :
    (s.offer bytes).meas = s.meas := rfl
@[simp] theorem State.offer_emitted (s : State) (bytes : List Byte) :
    (s.offer bytes).emitted = s.emitted := rfl
@[simp] theorem State.offer_ret (s : State) (bytes : List Byte) : (s.offer bytes).ret = s.ret := rfl
@[simp] theorem State.offer_draws (s : State) (bytes : List Byte) :
    (s.offer bytes).draws = s.draws := rfl

/-! `withPose`: another cache. -/

@[simp] theorem State.withPose_buf (s : State) (p : Pose) : (s.withPose p).buf = s.buf := rfl
@[simp] theorem State.withPose_cursor (s : State) (p : Pose) :
    (s.withPose p).cursor = s.cursor := rfl
@[simp] theorem State.withPose_lastX (s : State) (p : Pose) : (s.withPose p).lastX = p.x := rfl
@[simp] theorem State.withPose_lastY (s : State) (p : Pose) : (s.withPose p).lastY = p.y := rfl
@[simp] theorem State.withPose_lastZ (s : State) (p : Pose) : (s.withPose p).lastZ = p.z := rfl
@[simp] theorem State.withPose_poseValid (s : State) (p : Pose) :
    (s.withPose p).poseValid = p.valid := rfl
@[simp] theorem State.withPose_input (s : State) (p : Pose) : (s.withPose p).input = s.input := rfl
@[simp] theorem State.withPose_meas (s : State) (p : Pose) : (s.withPose p).meas = s.meas := rfl
@[simp] theorem State.withPose_emitted (s : State) (p : Pose) :
    (s.withPose p).emitted = s.emitted := rfl
@[simp] theorem State.withPose_ret (s : State) (p : Pose) : (s.withPose p).ret = s.ret := rfl
@[simp] theorem State.withPose_draws (s : State) (p : Pose) : (s.withPose p).draws = s.draws := rfl

end Sys2Proof.Machine
end

