-- ==== Sys2Proof/Laws/Memory.lean ====
section
/-! SUPPORT. The buffer as memory: a read after a write, the canonical form, and the bytes of the
candidate frame (20_memory.md R56, R57). -/

namespace Sys2Proof.Machine

/-- A read after a write (R56, R57): the byte written at that index, what was there at any other. -/
theorem Memory.lookup_write (m : Memory) (i j : Nat) (b : Byte) :
    Memory.lookup (Memory.write m i b) j = if i = j then some b else Memory.lookup m j := by
  induction m with
  | nil => simp [Memory.write, Memory.lookup]
  | cons c rest ih =>
    obtain ⟨k, v⟩ := c
    unfold Memory.write
    split
    · rename_i hlt
      by_cases hij : i = j <;> simp [Memory.lookup, hij]
    · split
      · rename_i hik
        subst hik
        by_cases hij : i = j <;> simp [Memory.lookup, hij]
      · rename_i hlt hik
        by_cases hkj : k = j
        · subst hkj
          simp [Memory.lookup, hik]
        · simp [Memory.lookup, hkj, ih]

/-- Every entry after a write is the byte written or an entry of before. -/
theorem Memory.mem_write {m : Memory} {i : Nat} {b : Byte} {c : Host.Cell}
    (h : c ∈ Memory.write m i b) : c = (i, b) ∨ c ∈ m := by
  induction m with
  | nil => simpa [Memory.write] using h
  | cons d rest ih =>
    unfold Memory.write at h
    split at h
    · simpa using h
    · split at h
      · rcases List.mem_cons.1 h with h | h
        · exact .inl h
        · exact .inr (List.mem_cons_of_mem _ h)
      · rcases List.mem_cons.1 h with h | h
        · exact .inr (h ▸ List.mem_cons_self)
        · exact (ih h).imp_right (List.mem_cons_of_mem _)

/-- A write keeps the indices strictly rising. -/
theorem Memory.pairwise_write {m : Memory} (i : Nat) (b : Byte)
    (h : m.Pairwise (fun a c => a.1 < c.1)) :
    (Memory.write m i b).Pairwise (fun a c => a.1 < c.1) := by
  induction m with
  | nil => simp [Memory.write]
  | cons d rest ih =>
    obtain ⟨hd, hrest⟩ := List.pairwise_cons.1 h
    unfold Memory.write
    split
    · rename_i hlt
      refine List.pairwise_cons.2 ⟨fun c hc => ?_, h⟩
      rcases List.mem_cons.1 hc with rfl | hc
      · exact hlt
      · exact hlt.trans (hd c hc)
    · split
      · rename_i heq
        exact List.pairwise_cons.2 ⟨fun c hc => by simpa [heq] using hd c hc, hrest⟩
      · rename_i hlt hne
        refine List.pairwise_cons.2 ⟨fun c hc => ?_, ih hrest⟩
        rcases Memory.mem_write hc with rfl | hc
        · simp only; omega
        · exact hd c hc

/-- Every memory operation keeps the canonical form: a store does. -/
theorem Memory.wf_write {m : Memory} {i : Nat} (b : Byte) (h : Memory.wf m)
    (hi : i < Config.frameLen) : Memory.wf (Memory.write m i b) := by
  refine ⟨Memory.pairwise_write i b h.1, fun c hc => ?_⟩
  rcases Memory.mem_write hc with rfl | hc
  · exact hi
  · exact h.2 c hc

/-- The memory after a reset, with nothing listed, has the canonical form. -/
theorem Memory.wf_nil : Memory.wf [] := ⟨List.Pairwise.nil, by simp⟩

/-- The memory of the reset state has the canonical form. -/
theorem Memory.wf_reset : Memory.wf State.reset.buf := Memory.wf_nil

/-- `buf[i] <- b` keeps the canonical form. -/
theorem State.wf_writeByte {s : State} (i : FrameIndex) (b : Byte) (h : Memory.wf s.buf) :
    Memory.wf (s.writeByte i b).buf := Memory.wf_write b h i.isLt

/-- A read after `buf[i] <- b` (R56, R57). -/
@[simp] theorem State.readByte_writeByte (s : State) (i j : FrameIndex) (b : Byte) :
    (s.writeByte i b).readByte j = if i = j then b else s.readByte j := by
  simp only [State.readByte, State.writeByte, State.unwritten, Memory.lookup_write, Fin.val_inj]
  split <;> rfl

/-- What a read depends on: the memory and the draw. -/
theorem State.readByte_congr {s t : State} (hb : s.buf = t.buf) (hd : s.draws = t.draws)
    (i : FrameIndex) : s.readByte i = t.readByte i := by
  simp [State.readByte, State.unwritten, hb, hd]

@[simp] theorem State.readByte_setCursor (s : State) (v i : FrameIndex) :
    (s.setCursor v).readByte i = s.readByte i := rfl

@[simp] theorem State.readByte_beginStep (s : State) (i : FrameIndex) :
    s.beginStep.readByte i = s.readByte i := rfl

@[simp] theorem State.readByte_advance (s : State) (i : FrameIndex) :
    s.advance.readByte i = s.readByte i := rfl

@[simp] theorem State.readByte_emit (s : State) (m : Measurement) (i : FrameIndex) :
    (s.emit m).readByte i = s.readByte i := rfl

@[simp] theorem State.readByte_cacheUpdate (s : State) (m : Measurement) (i : FrameIndex) :
    (s.cacheUpdate m).readByte i = s.readByte i := rfl

@[simp] theorem State.readByte_giveBack (s : State) (r : Returned) (i : FrameIndex) :
    (s.giveBack r).readByte i = s.readByte i := rfl

/-- A byte of the candidate frame is the buffer byte at that index (R114). -/
@[simp] theorem State.getElem_readFrame (s : State) (i : Nat) (h : i < 18) :
    s.readFrame[i] = s.readByte ⟨i, h⟩ := by
  simp [State.readFrame, State.memRead]

/-- The bytes of `MemRead(addr, n)`, lowest index first (R10). -/
theorem State.getElem_memRead (s : State) (addr n : Nat) (h : addr + n ≤ 18) (k : Nat) (hk : k < n) :
    (s.memRead addr n h)[k] = s.readByte ⟨addr + k, by omega⟩ := by
  simp [State.memRead]

end Sys2Proof.Machine
end

