-- ==== Sys2Proof/Laws/Operands.lean ====
section
/-! SUPPORT. Field assembly and its inverse (R83, R91). -/

namespace Sys2Proof

/-- The bits of F32LE: bit `j` of the value is bit `j % 8` of byte `j / 8` (R80, R83). -/
theorem f32le_getLsbD (b0 b1 b2 b3 : Byte) (j : Nat) :
    (f32le b0 b1 b2 b3).getLsbD j =
      if j < 8 then b0.getLsbD j else if j < 16 then b1.getLsbD (j - 8)
      else if j < 24 then b2.getLsbD (j - 16) else if j < 32 then b3.getLsbD (j - 24)
      else false := by
  have out (b : Byte) (i : Nat) (h : 8 ≤ i) : b.getLsbD i = false := BitVec.getLsbD_of_ge b i h
  unfold f32le
  simp only [BitVec.getLsbD_or, BitVec.getLsbD_shiftLeft, BitVec.getLsbD_setWidth]
  split_ifs with h1 h2 h3 h4
  · simp [h1, show j < 32 by omega, show j < 16 by omega, show j < 24 by omega]
  · simp [h1, h2, show j < 32 by omega, show j < 24 by omega, out b0 j (by omega),
      show j - 8 < 32 by omega]
  · simp [h1, h2, h3, show j < 32 by omega, out b0 j (by omega), out b1 (j - 8) (by omega),
      show j - 16 < 32 by omega]
  · simp [h1, h2, h3, h4, out b0 j (by omega), out b1 (j - 8) (by omega),
      out b2 (j - 16) (by omega), show j - 24 < 32 by omega]
  · simp [h4]

/-- The bits of byte `k` of a value (R91). -/
theorem byteOf_getLsbD (w : Word32) (k j : Nat) :
    (byteOf w k).getLsbD j = (decide (j < 8) && w.getLsbD (8 * k + j)) := by
  simp [byteOf]

/-- F32LE puts the four bytes of a value together again (R83, R91). -/
@[simp] theorem f32le_byteOf (w : Word32) :
    f32le (byteOf w 0) (byteOf w 1) (byteOf w 2) (byteOf w 3) = w := by
  refine BitVec.eq_of_getLsbD_eq fun j hj => ?_
  rw [f32le_getLsbD]
  simp only [byteOf_getLsbD]
  split_ifs with h1 h2 h3
  · simp [h1]
  · simp [show j - 8 < 8 by omega, show 8 + (j - 8) = j by omega]
  · simp [show j - 16 < 8 by omega, show 16 + (j - 16) = j by omega]
  · simp [show j - 24 < 8 by omega, show 24 + (j - 24) = j by omega]

/-- DECODE of a frame of the format gives its four fields (R80, R171). -/
theorem decodeFields_frameOf (x y z s : Word32) (k : Byte) :
    decodeFields (frameOf x y z s k) = ⟨x, y, z, s, Config.sourceTag⟩ := by
  simp [decodeFields, frameOf]

/-- The checksum byte of a frame of the format (R80). -/
@[simp] theorem getElem_frameOf_checksum (x y z s : Word32) (k : Byte) :
    (frameOf x y z s k)[17] = k := rfl

/-- EncodeFrame writes the CRC of its payload into the checksum byte (R91). -/
theorem crc8Payload_encodeFrame (x y z s : Word32) :
    crc8Payload (encodeFrame x y z s) = (encodeFrame x y z s)[17] := by
  rw [encodeFrame, crc8Payload_frameOf, getElem_frameOf_checksum]

/-- DECODE of an encoded frame gives the values encoded (R91, R171). -/
theorem decodeFields_encodeFrame (x y z s : Word32) :
    decodeFields (encodeFrame x y z s) = ⟨x, y, z, s, Config.sourceTag⟩ :=
  decodeFields_frameOf x y z s _

/-- A frame of the format begins with the sync byte (R80). -/
theorem toList_frameOf (x y z s : Word32) (k : Byte) :
    (frameOf x y z s k).toList = Config.syncByte :: ((frameOf x y z s k).payload ++ [k]) := rfl

end Sys2Proof
end

