-- ==== Sys2Proof/Laws/Ops.lean ====
section
/-! SUPPORT. One lemma per shared operation that says everything it can do; provers cite these
instead of unfolding the operations. -/

namespace Sys2Proof.Machine

/-! The failure path and the byte-step operations. -/

/-- Absorbing a failure changes nothing (R201, R207). -/
@[simp] theorem State.absorb_eq (s : State) (k : FailureKind) : s.absorb k = s := rfl

/-- DROP changes nothing (R111). -/
@[simp] theorem dropOp_eq (s : State) : dropOp s = s := rfl

/-- REJECT changes nothing (R145). -/
@[simp] theorem rejectOp_eq (s : State) : rejectOp s = s := rfl

/-- All that SYNC does (R112). -/
theorem syncOp_eq (s : State) :
    syncOp s = { s with buf := Memory.write s.buf 0 Config.syncByte, cursor := 1 } := rfl

/-- All that STORE does (R113). -/
theorem storeOp_eq (b : Byte) (s : State) :
    storeOp b s = { s with buf := Memory.write s.buf s.cursor.val b, cursor := s.cursor + 1 } := rfl

/-- All that CLOSE does before it validates (R114). -/
theorem State.closed_eq (s : State) (b : Byte) :
    s.closed b = { s with buf := Memory.write s.buf 17 b, cursor := 0 } := rfl

/-- All that CLOSE can do (R114): the window is closed, and then either the frame's measurement is
emitted and cached, when the CRC is the byte received, or nothing more happens. -/
theorem closeOp_cases (b : Byte) (s : State) :
    (crc8Payload (s.writeByte 17 b).readFrame = b ∧
      closeOp b s = ((s.closed b).emit (decodeFields (s.writeByte 17 b).readFrame)).cacheUpdate
        (decodeFields (s.writeByte 17 b).readFrame)) ∨
    (crc8Payload (s.writeByte 17 b).readFrame ≠ b ∧ closeOp b s = s.closed b) := by
  have h17 : (s.writeByte 17 b).readFrame[17] = b := by simp
  by_cases h : crc8Payload (s.writeByte 17 b).readFrame = b
  · exact .inl ⟨h, by simp only [closeOp, validateAndDecode, h17, if_pos h]; rfl⟩
  · exact .inr ⟨h, by simp only [closeOp, validateAndDecode, h17, if_neg h]; rfl⟩

/-- What CLOSE does on both branches (R114): the byte stored, the cursor 0, nothing of the model's
own or of the input touched. -/
theorem closeOp_frame (b : Byte) (s : State) :
    (closeOp b s).buf = Memory.write s.buf 17 b ∧ (closeOp b s).cursor = 0 ∧
      (closeOp b s).input = s.input ∧ (closeOp b s).ret = s.ret ∧ (closeOp b s).draws = s.draws := by
  rcases closeOp_cases b s with ⟨_, h⟩ | ⟨_, h⟩ <;> rw [h] <;> exact ⟨rfl, rfl, rfl, rfl, rfl⟩

/-- The buffer after CLOSE, on both branches. -/
theorem readByte_closeOp (b : Byte) (s : State) (j : FrameIndex) :
    (closeOp b s).readByte j = if j = 17 then b else s.readByte j := by
  rcases closeOp_cases b s with ⟨_, h⟩ | ⟨_, h⟩ <;> rw [h] <;> simp [State.closed, eq_comm]

/-- The verdict on a frame whose checksum matches (R144). -/
theorem validateAndDecode_of_match {f : Frame} (h : crc8Payload f = f[17]) :
    validateAndDecode f = .ok (decodeFields f) := if_pos h

/-- The verdict on a frame whose checksum differs (R144). -/
theorem validateAndDecode_of_mismatch {f : Frame} (h : crc8Payload f ≠ f[17]) :
    validateAndDecode f = .checksumMismatch := if_neg h

/-! The four cases of `Feed` (R110). -/

/-- `Feed` in SEARCH on a byte that is not the sync byte. -/
theorem State.feed_drop {s : State} {b : Byte} (hc : s.cursor = 0) (hb : b ≠ Config.syncByte) :
    s.feed b = s.beginStep := by
  simp [State.feed, hc, hb]

/-- `Feed` in SEARCH on the sync byte. -/
theorem State.feed_sync {s : State} (hc : s.cursor = 0) :
    s.feed Config.syncByte = syncOp s.beginStep := by
  simp [State.feed, hc]

/-- `Feed` in ACCUM before the last byte. -/
theorem State.feed_store {s : State} {b : Byte} (h1 : 1 ≤ s.cursor.val) (h2 : s.cursor.val ≤ 16) :
    s.feed b = storeOp b s.beginStep := by
  have h0 : s.cursor ≠ 0 := fun h => by simp [h] at h1
  simp [State.feed, h0, h2]

/-- `Feed` in ACCUM on the last byte. -/
theorem State.feed_close {s : State} {b : Byte} (hc : s.cursor = 17) :
    s.feed b = closeOp b s.beginStep := by
  simp [State.feed, hc]

/-- Every pair of a cursor and a byte falls under exactly one case (R86). -/
theorem cursor_cases (c : FrameIndex) :
    c = 0 ∨ (1 ≤ c.val ∧ c.val ≤ 16) ∨ c = 17 := by
  have := c.isLt
  rcases Nat.eq_zero_or_pos c.val with h | h
  · exact .inl (Fin.ext h)
  · by_cases h16 : c.val ≤ 16
    · exact .inr (.inl ⟨h, h16⟩)
    · exact .inr (.inr (Fin.ext (by omega)))

/-- All that `Feed` can do (R110). -/
theorem State.feed_cases (s : State) (b : Byte) :
    (s.cursor = 0 ∧ b ≠ Config.syncByte ∧ s.feed b = s.beginStep) ∨
    (s.cursor = 0 ∧ b = Config.syncByte ∧ s.feed b = syncOp s.beginStep) ∨
    (1 ≤ s.cursor.val ∧ s.cursor.val ≤ 16 ∧ s.feed b = storeOp b s.beginStep) ∨
    (s.cursor = 17 ∧ s.feed b = closeOp b s.beginStep) := by
  rcases cursor_cases s.cursor with h | ⟨h1, h2⟩ | h
  · by_cases hb : b = Config.syncByte
    · subst hb
      exact .inr (.inl ⟨h, rfl, s.feed_sync h⟩)
    · exact .inl ⟨h, hb, s.feed_drop h hb⟩
  · exact .inr (.inr (.inl ⟨h1, h2, s.feed_store h1 h2⟩))
  · exact .inr (.inr (.inr ⟨h, s.feed_close h⟩))

/-- The decoded instruction of a byte under the cursor, executed at the beginning of a step, is
`Feed` of that byte. -/
theorem exec_decodeByte (s : State) (b : Byte) :
    exec (decodeByte s.cursor b) s.beginStep = .next (s.feed b) := by
  rcases s.feed_cases b with ⟨hc, hb, hf⟩ | ⟨hc, hb, hf⟩ | ⟨h1, h2, hf⟩ | ⟨hc, hf⟩ <;> rw [hf]
  · simp [decodeByte, hc, hb, exec, execDrop]
  · simp [decodeByte, hc, hb, exec, execSync]
  · have h0 : s.cursor ≠ 0 := fun h => by simp [h] at h1
    simp [decodeByte, h0, h2, exec, execStore]
  · simp [decodeByte, hc, exec, execClose]

/-- The four steps `Feed` takes all leave the input alone (the sample was taken before). -/
@[simp] theorem State.feed_input (s : State) (b : Byte) : (s.feed b).input = s.input := by
  rcases s.feed_cases b with ⟨_, _, hf⟩ | ⟨_, _, hf⟩ | ⟨_, _, hf⟩ | ⟨_, hf⟩ <;> rw [hf]
  · rfl
  · rfl
  · rfl
  · rcases closeOp_cases b s.beginStep with ⟨_, h⟩ | ⟨_, h⟩ <;> rw [h] <;> rfl

/-- `Feed` commutes with a change of what is still to come on the input ports. -/
theorem State.feed_withInput (s : State) (b : Byte) (l : List PortSample) :
    State.feed { s with input := l } b = { s.feed b with input := l } := by
  rcases s.feed_cases b with ⟨hc, hb, hf⟩ | ⟨hc, hb, hf⟩ | ⟨h1, h2, hf⟩ | ⟨hc, hf⟩ <;> rw [hf]
  · exact State.feed_drop (s := { s with input := l }) hc hb
  · subst hb
    exact State.feed_sync (s := { s with input := l }) hc
  · exact State.feed_store (s := { s with input := l }) h1 h2
  · rw [State.feed_close (s := { s with input := l }) hc]
    have hfr : ((State.beginStep { s with input := l }).writeByte 17 b).readFrame =
        (s.beginStep.writeByte 17 b).readFrame := rfl
    unfold closeOp
    rw [hfr]
    cases validateAndDecode (s.beginStep.writeByte 17 b).readFrame <;> rfl

/-! Runs. -/

@[simp] theorem State.feedAll_nil (s : State) : s.feedAll [] = s := rfl

@[simp] theorem State.feedAll_cons (s : State) (b : Byte) (bs : List Byte) :
    s.feedAll (b :: bs) = (s.feed b).feedAll bs := rfl

/-- A run over two sequences is the run over the second from where the first ended. -/
theorem State.feedAll_append (s : State) (as bs : List Byte) :
    s.feedAll (as ++ bs) = (s.feedAll as).feedAll bs := by
  simp [State.feedAll]

@[simp] theorem State.run_nil (s : State) : s.run [] = (s, []) := rfl

@[simp] theorem State.run_cons (s : State) (b : Byte) (bs : List Byte) :
    s.run (b :: bs) = (((s.feed b).run bs).1, (s.feed b).meas.toList ++ ((s.feed b).run bs).2) := rfl

/-- The measurements of two sequences are those of the first, then those of the second. -/
theorem State.run_append (s : State) (as bs : List Byte) :
    s.run (as ++ bs) = (((s.run as).1.run bs).1, (s.run as).2 ++ ((s.run as).1.run bs).2) := by
  induction as generalizing s with
  | nil => simp
  | cons a as ih => simp [ih]

/-! The next instruction. -/

/-- No sample, no instruction: the core waits (R217). -/
theorem State.nextInstr_nil {s : State} (h : s.input = []) : s.nextInstr = none := by
  simp [State.nextInstr, h]

/-- The instruction of the next sample (R86, R206). -/
theorem State.nextInstr_cons {s : State} {p : PortSample} {rest : List PortSample}
    (h : s.input = p :: rest) : s.nextInstr = decodePorts s.cursor p := by
  simp [State.nextInstr, h]

/-- All that the ports decoder can answer (R206, R37). -/
theorem decodePorts_cases (c : FrameIndex) (p : PortSample) :
    (p.rst = true ∧ decodePorts c p = some .reset) ∨
    (p.rst = false ∧ p.inValid = true ∧ decodePorts c p = some (decodeByte c p.inData)) ∨
    (p.rst = false ∧ p.inValid = false ∧ decodePorts c p = none) := by
  obtain ⟨_ | _, _ | _, _⟩ := p <;> simp [decodePorts]

end Sys2Proof.Machine
end

