-- ==== Sys2Proof/Laws/Incremental.lean ====
section
/-! SUPPORT. The four cases of a byte in the incremental implementation (10_state.md R35). -/

namespace Sys2Proof.Machine

/-- Noise leaves the running register alone. -/
theorem Incremental.feed_drop {i : Incremental} {b : Byte} (hc : i.core.cursor = 0)
    (hb : b ≠ Config.syncByte) : i.feed b = { core := i.core.beginStep, crc := i.crc } := by
  simp [Incremental.feed, hc, hb]

/-- SYNC clears the running register. -/
theorem Incremental.feed_sync {i : Incremental} (hc : i.core.cursor = 0) :
    i.feed Config.syncByte = { core := syncOp i.core.beginStep, crc := Config.crcInit } := by
  simp [Incremental.feed, hc]

/-- STORE advances the running register by one CRC8_BYTE. -/
theorem Incremental.feed_store {i : Incremental} {b : Byte} (h1 : 1 ≤ i.core.cursor.val)
    (h2 : i.core.cursor.val ≤ 16) :
    i.feed b = { core := storeOp b i.core.beginStep, crc := crc8Byte i.crc b } := by
  have h0 : i.core.cursor ≠ 0 := fun h => by simp [h] at h1
  simp [Incremental.feed, h0, h2]

/-- CLOSE compares the running register with the incoming byte. -/
theorem Incremental.feed_close {i : Incremental} {b : Byte} (hc : i.core.cursor = 17) :
    i.feed b =
      { core := settleFrame (i.core.beginStep.closed b)
          (if i.crc = b then .ok (decodeFields (i.core.beginStep.writeByte 17 b).readFrame)
           else .checksumMismatch)
        crc := i.crc } := by
  simp [Incremental.feed, hc]

end Sys2Proof.Machine
end

