-- ==== Sys2Proof/Laws/PerInstr.lean ====
section
/-! SUPPORT. A fact about the encoding of every instruction, one lemma per constructor: how many
bytes an instruction takes on the wire (30_encoding.md R81, R80, R94). -/

namespace Sys2Proof

/-- The number of bytes of an instruction on the wire: one for a byte-step operation, 18 for a
frame, the listed bytes for noise, none for an internal operation and for RESET. -/
def Instr.wireLength : Instr → Option Nat
  | .drop _ => some 1
  | .sync => some 1
  | .store _ => some 1
  | .close _ => some 1
  | .crc8Bit _ _ => none
  | .crc8Byte _ _ => none
  | .crc8Payload _ => none
  | .validateAndDecode _ => none
  | .reject => none
  | .f32le _ _ _ _ => none
  | .decode _ => none
  | .emit _ => none
  | .cacheUpdate _ => none
  | .reset => none
  | .frame _ _ _ _ => some 18
  | .badframe _ _ _ _ _ => some 18
  | .noise bytes => some bytes.length
  | .frame18 _ _ _ _ _ => some 18

/-- The encoder writes as many bytes as the format of the instruction has. -/
def Laws.EncodedLength.Statement (i : Instr) : Prop :=
  (encode i).map List.length = i.wireLength

theorem Laws.EncodedLength.drop (b : Byte) :
    Laws.EncodedLength.Statement (.drop b) := rfl

theorem Laws.EncodedLength.sync :
    Laws.EncodedLength.Statement (.sync) := rfl

theorem Laws.EncodedLength.store (b : Byte) :
    Laws.EncodedLength.Statement (.store b) := rfl

theorem Laws.EncodedLength.close (b : Byte) :
    Laws.EncodedLength.Statement (.close b) := rfl

theorem Laws.EncodedLength.crc8Bit (crc byte : Byte) :
    Laws.EncodedLength.Statement (.crc8Bit crc byte) := rfl

theorem Laws.EncodedLength.crc8Byte (crc d : Byte) :
    Laws.EncodedLength.Statement (.crc8Byte crc d) := rfl

theorem Laws.EncodedLength.crc8Payload (f : Frame) :
    Laws.EncodedLength.Statement (.crc8Payload f) := rfl

theorem Laws.EncodedLength.validateAndDecode (f : Frame) :
    Laws.EncodedLength.Statement (.validateAndDecode f) := rfl

theorem Laws.EncodedLength.reject :
    Laws.EncodedLength.Statement (.reject) := rfl

theorem Laws.EncodedLength.f32le (b0 b1 b2 b3 : Byte) :
    Laws.EncodedLength.Statement (.f32le b0 b1 b2 b3) := rfl

theorem Laws.EncodedLength.decode (f : Frame) :
    Laws.EncodedLength.Statement (.decode f) := rfl

theorem Laws.EncodedLength.emit (m : Measurement) :
    Laws.EncodedLength.Statement (.emit m) := rfl

theorem Laws.EncodedLength.cacheUpdate (m : Measurement) :
    Laws.EncodedLength.Statement (.cacheUpdate m) := rfl

theorem Laws.EncodedLength.reset :
    Laws.EncodedLength.Statement (.reset) := rfl

theorem Laws.EncodedLength.frame (x y z s : Word32) :
    Laws.EncodedLength.Statement (.frame x y z s) := by
  simp [Laws.EncodedLength.Statement, encode, Instr.wireLength]

theorem Laws.EncodedLength.badframe (x y z s : Word32) (k : Byte) :
    Laws.EncodedLength.Statement (.badframe x y z s k) := by
  simp [Laws.EncodedLength.Statement, encode, Instr.wireLength]

theorem Laws.EncodedLength.noise (bytes : List Byte) :
    Laws.EncodedLength.Statement (.noise bytes) := by
  simp [Laws.EncodedLength.Statement, encode, Instr.wireLength]

theorem Laws.EncodedLength.frame18 (x y z s : Word32) (k : Byte) :
    Laws.EncodedLength.Statement (.frame18 x y z s k) := by
  simp [Laws.EncodedLength.Statement, encode, Instr.wireLength]

end Sys2Proof
end

