-- ==== Sys2Proof/Tests/Slice0.lean ====
section
/-! SUPPORT. The model's own tests: words written out from the spec's encodings, ill-formed terms that
WellFormed refuses, vectors of 95_test_vectors.md (named after their labels), and for every statement
with hypotheses a state and operands that meet them. -/

namespace Sys2Proof.Machine.Tests

/-! Helpers: small states, and the next state of an outcome. -/

/-- A state with this cursor whose buffer holds these bytes from index 0 on, with the cache
`11111111, 22222222, 33333333, 1` that V-F9 uses. -/
def state (cursor : FrameIndex) (bytes : List Byte) : State where
  buf := (List.range bytes.length).zip bytes
  cursor := cursor
  lastX := 0x11111111#32
  lastY := 0x22222222#32
  lastZ := 0x33333333#32
  poseValid := true
  input := []
  meas := none
  emitted := []
  ret := .none
  draws := 1

/-- The next state of an outcome, if it is one. -/
def after (o : Host.Outcome State Fault Refusal) : Option State :=
  match o with
  | .next t => some t
  | .fault _ => none
  | .refused _ => none

/-- The four patterns of a measurement, without its tag. -/
structure Patterns where
  x : Word32
  y : Word32
  z : Word32
  stdDev : Word32
  deriving DecidableEq, Repr

/-- What the tests look at: the cursor, the buffer, the cache, the emitted patterns. -/
structure Seen where
  cursor : FrameIndex
  buf : Memory
  pose : Pose
  emitted : List Patterns
  deriving DecidableEq, Repr

/-- What the tests look at in a state. -/
def seen (s : State) : Seen :=
  ⟨s.cursor, s.buf, s.pose, s.emitted.map fun m => ⟨m.x, m.y, m.z, m.stdDev⟩⟩

/-- What the tests look at in the next state of an outcome, if it is one. -/
def see (o : Host.Outcome State Fault Refusal) : Option Seen := (after o).map seen

/-- F1 of 95_test_vectors.md, indices 0..16. -/
def f1Head : List Byte :=
  [0xA5, 0x00, 0x00, 0x80, 0x3F, 0x00, 0x00, 0x00, 0x40, 0x00, 0x00, 0x40, 0x40, 0x00, 0x00, 0x80,
   0x3F]

/-- F1 of 95_test_vectors.md. -/
def f1 : List Byte := f1Head ++ [0xD5]

/-- F2 of 95_test_vectors.md. -/
def f2 : List Byte :=
  [0xA5, 0x00, 0x00, 0xC0, 0xBF, 0x00, 0x00, 0x80, 0x3E, 0x00, 0x00, 0xC8, 0x42, 0xCD, 0xCC, 0xCC,
   0x3D, 0x1D]

/-- FS of 95_test_vectors.md: a NaN, an infinity, a negative zero and a subnormal. -/
def fS : List Byte :=
  [0xA5, 0x01, 0x00, 0xC0, 0x7F, 0x00, 0x00, 0x80, 0xFF, 0x00, 0x00, 0x00, 0x80, 0x01, 0x00, 0x00,
   0x00, 0x8A]

/-- FK of 95_test_vectors.md: its checksum byte is `A5`. -/
def fK : List Byte :=
  [0xA5, 0x53, 0x00, 0x00, 0x00, 0x00, 0x00, 0x00, 0x00, 0x00, 0x00, 0x00, 0x00, 0x00, 0x00, 0x00,
   0x00, 0xA5]

/-- F1 as a vector, with this checksum byte. -/
def f1Frame (k : Byte) : Frame := frameOf 0x3F800000 0x40000000 0x40400000 0x3F800000 k

/-! Decoding: words written out bit by bit from R86, R80, R94. -/

theorem test_decode_sync : decodeByte 0 0b10100101#8 = .sync := by decide
theorem test_decode_drop : decodeByte 0 0b10100100#8 = .drop 0xA4#8 := by decide
theorem test_decode_store_first : decodeByte 1 0b10100101#8 = .store 0xA5#8 := by decide
theorem test_decode_store_last : decodeByte 16 0b00111111#8 = .store 0x3F#8 := by decide
theorem test_decode_close : decodeByte 17 0b10100101#8 = .close 0xA5#8 := by decide

theorem test_decode_reset :
    decodePorts 9 { rst := true, inValid := true, inData := 0xA5 } = some .reset := by decide

theorem test_decode_idle :
    decodePorts 9 { rst := false, inValid := false, inData := 0xA5 } = none := by decide

theorem test_decode_frame18 : decodeFrame f2 =
    .ok (.frame18 0xBFC00000 0x3E800000 0x42C80000 0x3DCCCCCD 0x1D) := by decide

theorem test_decode_frame : decodeListing f1 =
    .ok (.frame 0x3F800000 0x40000000 0x40400000 0x3F800000) := by decide +kernel

theorem test_decode_badframe : decodeListing (f1Head ++ [0xD4]) =
    .ok (.badframe 0x3F800000 0x40000000 0x40400000 0x3F800000 0xD4) := by decide +kernel

theorem test_decode_noise : decodeListing [0x00, 0xFF, 0x5A, 0x13] =
    .ok (.noise [0x00, 0xFF, 0x5A, 0x13]) := by decide

theorem test_decode_rejects_length : decodeFrame [0xA5, 0x00] = .error .badLength := by decide

theorem test_decode_rejects_no_sync : decodeFrame (0xA4 :: f1.tail) = .error .noSync := by decide

theorem test_decode_rejects_mixture :
    decodeListing [0x00, 0xA5] = .error .notOnePseudo := by decide

/-- The internal operations have no encoding (R86). -/
theorem test_internal_no_encoding :
    encode (.crc8Bit 0 1) = none ∧ encode (.crc8Byte 0 1) = none ∧
    encode (.crc8Payload (f1Frame 0xD5)) = none ∧
    encode (.validateAndDecode (f1Frame 0xD5)) = none ∧ encode .reject = none ∧
    encode (.f32le 0 0 0x80 0x3F) = none ∧ encode (.decode (f1Frame 0xD5)) = none ∧
    encode (.emit ⟨1, 2, 3, 4, 5⟩) = none ∧ encode (.cacheUpdate ⟨1, 2, 3, 4, 5⟩) = none :=
  ⟨rfl, rfl, rfl, rfl, rfl, rfl, rfl, rfl, rfl⟩

/-- The example of R94: the bytes of FRAME(3F800000, 40000000, 40400000, 3F800000). -/
theorem test_encode_frame :
    encode (.frame 0x3F800000 0x40000000 0x40400000 0x3F800000) = some f1 := by decide +kernel

theorem test_table_word_sync : decodeTableWord 8 0xA5 = some .sync := by decide
theorem test_table_word_drop : decodeTableWord 8 0x5A = some (.drop 0x5A) := by decide

/-- FZ, read as the 144-bit number of R80. -/
theorem test_table_word_frame18 :
    decodeTableWord 144 0xA5 = some (.frame18 0 0 0 0 0) := by decide +kernel

/-! WellFormed: an ill-formed term for each check. -/

theorem test_wf_refuses_drop_sync_byte : (Instr.drop 0xA5).wellFormed = false := by decide

theorem test_wf_refuses_decode_mismatch :
    (Instr.decode (f1Frame 0xD4)).wellFormed = false := by decide +kernel

theorem test_wf_refuses_emit_other_tag (x y z s : Word32) :
    (Instr.emit ⟨x, y, z, s, Config.sourceTag + 1⟩).wellFormed = false := by
  simp [Instr.wellFormed]

theorem test_wf_refuses_cache_other_tag (x y z s : Word32) :
    (Instr.cacheUpdate ⟨x, y, z, s, Config.sourceTag + 1⟩).wellFormed = false := by
  simp [Instr.wellFormed]

theorem test_wf_refuses_badframe_good_checksum :
    (Instr.badframe 0x3F800000 0x40000000 0x40400000 0x3F800000 0xD5).wellFormed = false := by
  decide +kernel

theorem test_wf_refuses_noise_with_sync :
    (Instr.noise [0x00, 0xA5]).wellFormed = false := by decide

/-! The Frame Assembler: V-F1 to V-F12. -/

/-- V-F2. -/
theorem test_drop_near_misses : [0xA4, 0xA6, 0x5A, 0x25, 0xA7, 0xFF].all (fun b =>
    after (exec (.drop b) (state 0 f1)) == some (state 0 f1)) = true := by decide

/-- V-F11: SYNC over the bytes of a closed window. -/
theorem test_sync_over_stale :
    (after (exec .sync (state 0 f1))).map (fun t => (t.cursor, t.buf == (state 0 f1).buf)) =
      some (1, true) := by decide

/-- V-F5: `A5` at cursor 5 is data. -/
theorem test_store_sync_value :
    (after (exec (.store 0xA5) (state 5 (f1.take 5)))).map (fun t =>
      (t.cursor, t.readByte 5, t.readByte 0)) = some (6, 0xA5, 0xA5) := by decide

/-- V-F6. -/
theorem test_store_last_payload :
    (after (exec (.store 0x3F) (state 16 (f1.take 16)))).map (fun t => (t.cursor, t.buf)) =
      some (17, (state 17 f1Head).buf) := by decide

/-- V-F7. -/
theorem test_close_emits :
    see (exec (.close 0xD5) (state 17 f1Head)) =
      some ⟨0, (state 0 f1).buf, ⟨0x3F800000, 0x40000000, 0x40400000, true⟩,
        [⟨0x3F800000, 0x40000000, 0x40400000, 0x3F800000⟩]⟩ := by decide +kernel

/-- V-F9. -/
theorem test_close_rejects :
    see (exec (.close 0xD4) (state 17 f1Head)) =
      some ⟨0, (state 0 (f1Head ++ [0xD4])).buf, ⟨0x11111111, 0x22222222, 0x33333333, true⟩, []⟩ := by
  decide +kernel

/-- V-F8: `A5` as a checksum value, and V-F10: the same byte after F1. -/
theorem test_close_sync_value :
    ((state 17 fK.dropLast).label 0xA5, (state 17 f1Head).label 0xA5) = (.emit, .reject) := by
  decide +kernel

/-- R200 to R202: the failure kinds of the five outcomes. -/
theorem test_failure_kinds :
    ((state 0 []).failure 0x00, (state 0 []).failure 0xA5, (state 17 f1Head).failure 0xD4,
      (state 17 f1Head).failure 0xD5) =
    (some .syncLoss, none, some .checksumMismatch, none) := by decide +kernel

/-! The CRC-8 validator: V-C1 to V-C12. -/

/-- V-C1, the rows that tell logical shifts, the polynomial and the source of `mix`. -/
theorem test_crc_bit :
    [crc8Bit 0x00 0x01, crc8Bit 0x01 0x01, crc8Bit 0xFF 0xFF, crc8Bit 0xFF 0x00, crc8Bit 0x8C 0x01,
      crc8Bit 0x46 0x80, crc8Bit 0x01 0xFE] =
    [(0x8C, 0x00), (0x00, 0x00), (0x7F, 0x7F), (0xF3, 0x00), (0xCA, 0x00), (0x23, 0x40),
      (0x8C, 0x7F)] := by decide

/-- V-C2. -/
theorem test_crc_byte :
    [crc8Byte 0x00 0x01, crc8Byte 0x00 0xA5, crc8Byte 0x00 0xFF, crc8Byte 0x8C 0x3F,
      crc8Byte 0xF1 0x3F, crc8Byte 0x5E 0x5E] = [0x5E, 0x90, 0x35, 0xD0, 0xD5, 0x00] := by
  decide +kernel

theorem test_exec_crc_bit :
    (after (exec (.crc8Bit 0x01 0x00) (state 3 []))).map (·.ret) = some (.bit 0x8C 0x00) := by
  decide

theorem test_exec_crc_byte :
    (after (exec (.crc8Byte 0xD0 0x00) (state 3 []))).map (·.ret) = some (.crc 0x57) := by
  decide +kernel

/-- V-C5, V-C6 and V-C8: the order of the bytes matters. -/
theorem test_crc_payload :
    (after (exec (.crc8Payload (f1Frame 0)) (state 3 []))).map (·.ret) = some (.crc 0xD5) ∧
    crc8List 0 (f1Frame 0).payload.reverse = 0xB0 ∧
    crc8List 0 (List.replicate 16 0xA5) = 0xD1 := by decide +kernel

/-- V-C12: the published check value of the variant (R150). -/
theorem test_crc_check_string :
    crc8List 0 [0x31, 0x32, 0x33, 0x34, 0x35, 0x36, 0x37, 0x38, 0x39] = 0xA1 := by decide +kernel

/-- V-D8: no partial result. -/
theorem test_validate_mismatch :
    (after (exec (.validateAndDecode (f1Frame 0xD4)) (state 3 []))).map (·.ret) =
      some (.verdict .checksumMismatch) := by decide +kernel

/-- V-D2. -/
theorem test_validate_match : (after (exec (.validateAndDecode (f1Frame 0xD5)) (state 3 []))).map
      (·.ret) =
    some (.verdict (.ok ⟨0x3F800000, 0x40000000, 0x40400000, 0x3F800000, Config.sourceTag⟩)) := by
  have h : crc8Payload (f1Frame 0xD5) = (f1Frame 0xD5)[17] := by decide +kernel
  have hv : validateAndDecode (f1Frame 0xD5) =
      .ok ⟨0x3F800000, 0x40000000, 0x40400000, 0x3F800000, Config.sourceTag⟩ := by
    rw [validateAndDecode_of_match h, f1Frame, decodeFields_frameOf]
  simp only [exec, execValidateAndDecode, hv]
  rfl

theorem test_reject : after (exec .reject (state 3 f1)) = some (state 3 f1) := by decide

/-! The float decoder and the emission: V-D1, V-D10. -/

/-- V-D1: the byte order, and zero-extension. -/
theorem test_f32le :
    (after (exec (.f32le 0x01 0x02 0x03 0x04) (state 3 []))).map (·.ret) =
      some (.word 0x04030201) ∧
    f32le 0xFF 0x00 0x00 0x00 = 0x000000FF ∧ f32le 0x00 0x00 0x00 0x80 = 0x80000000 := by decide

/-- The example of R171. -/
theorem test_decode_fields :
    (fun m : Measurement => (m.x, m.y, m.z, m.stdDev))
      (decodeFields (frameOf 0xBFC00000 0x3E800000 0x42C80000 0x3DCCCCCD 0x1D)) =
    (0xBFC00000, 0x3E800000, 0x42C80000, 0x3DCCCCCD) := by decide

theorem test_exec_decode (f : Frame) :
    (after (exec (.decode f) (state 3 []))).map (·.ret) = some (.measurement (decodeFields f)) := rfl

/-- V-D10: stdDev is in the measurement and in no register. -/
theorem test_emit :
    see (exec (.emit ⟨0xBFC00000, 0x3E800000, 0x42C80000, 0x3DCCCCCD, 7⟩) (state 0 [])) =
      some ⟨0, [], ⟨0x11111111, 0x22222222, 0x33333333, true⟩,
        [⟨0xBFC00000, 0x3E800000, 0x42C80000, 0x3DCCCCCD⟩]⟩ := by decide

theorem test_cache_update :
    see (exec (.cacheUpdate ⟨0xBFC00000, 0x3E800000, 0x42C80000, 0x3DCCCCCD, 7⟩) (state 0 [])) =
      some ⟨0, [], ⟨0xBFC00000, 0x3E800000, 0x42C80000, true⟩, []⟩ := by decide

/-! Reset and the ports: V-R1, V-R3, V-R4. -/

/-- V-R1. -/
theorem test_reset_mid_window :
    (after (exec .reset (state 9 (f2.take 9)))).map (fun t => (t.cursor, t.poseValid, t.buf)) =
      some (0, false, []) := by decide

/-- V-R3: a reset coincident with the byte that would close a valid frame. -/
theorem test_reset_wins :
    (after (step { state 17 f1Head with
      input := [{ rst := true, inValid := true, inData := 0xD5 }] })).map (fun t =>
        (t.cursor, t.poseValid, t.emitted.length, t.input.length)) = some (0, false, 0, 0) := by decide

/-- V-R4: the first bytes after reset, as the host offers them. -/
theorem test_first_step_sync :
    (after (step (State.reset.withFetchWord 8 0xA5))).map (fun t => (t.cursor, t.buf, t.input)) =
      some (1, [(0, 0xA5)], []) := by decide

theorem test_first_step_drop :
    (after (step (State.reset.withFetchWord 8 0x00))).map (fun t => (t.cursor, t.buf, t.input)) =
      some (0, [], []) := by decide

/-- R37: the byte source may pause. -/
theorem test_waits : after (step (state 9 f1)) = some (state 9 f1) := by decide

/-! The pseudo-instructions: V-F13, V-F14, V-F15 and the special values of P5. -/

theorem test_frame :
    see (exec (.frame 0x7FC00001 0xFF800000 0x80000000 0x00000001) (state 0 [])) =
      some ⟨0, (state 0 fS).buf, ⟨0x7FC00001, 0xFF800000, 0x80000000, true⟩,
        [⟨0x7FC00001, 0xFF800000, 0x80000000, 0x00000001⟩]⟩ := by decide +kernel

theorem test_badframe :
    see (exec (.badframe 0x3F800000 0x40000000 0x40400000 0x3F800000 0xD4) (state 0 [])) =
      some ⟨0, (state 0 (f1Head ++ [0xD4])).buf, ⟨0x11111111, 0x22222222, 0x33333333, true⟩, []⟩ := by
  decide +kernel

theorem test_noise : after (exec (.noise [0x00, 0xFF, 0x5A, 0x13]) (state 0 f1)) =
    some (state 0 f1) := by decide

/-- V-F14: a frame that meets a partial window closes it with its first byte and is lost. -/
theorem test_frame18_closes_partial_window :
    see (exec (.frame18 0xBFC00000 0x3E800000 0x42C80000 0x3DCCCCCD 0x1D) (state 17 f1Head)) =
      some ⟨0, (state 0 (f1Head ++ [0xA5])).buf, ⟨0x11111111, 0x22222222, 0x33333333, true⟩, []⟩ := by
  decide +kernel

/-! The reading of patterns (R173). -/

theorem test_binary32_class :
    [0x7FC00001, 0x7F800001, 0xFF800000, 0x3F800000, 0x00000001, 0x80000000].map binary32Class =
    [.nan true, .nan false, .infinity, .normal, .subnormal, .zero] := by decide

/-- The source's reading of `00 00 40 40`: 3.0 (S7). -/
theorem test_binary32_value : binary32Value 0x40400000 = some 3 := by
  have hc : binary32Class 0x40400000 = .normal := by decide
  have he : binary32Exponent 0x40400000 = 128 := by decide
  have hf : binary32Fraction 0x40400000 = 4194304 := by decide
  have hs : binary32Sign 0x40400000 = false := by decide
  simp only [binary32Value, hc, he, hf, hs]
  norm_num

/-! Witnesses: for every statement with hypotheses, a state and operands that meet them together. -/

/-- A segment: noise, then F1. -/
def segment1 : Segment := ⟨[0x00, 0xFF, 0x5A, 0x13], 0x3F800000, 0x40000000, 0x40400000, 0x3F800000⟩

/-- A state with these bytes offered next. -/
def offered (s : State) (bytes : List Byte) : State := { s with input := bytesOffered bytes }

theorem witness_DecodeEncodeAgree :
    ((Instr.drop 0xA4).wellFormed = true ∧ (Instr.drop 0xA4).selectedAt 0 = true) ∧
    (Instr.sync.wellFormed = true ∧ Instr.sync.selectedAt 0 = true) ∧
    ((Instr.store 0xA5).wellFormed = true ∧ (Instr.store 0xA5).selectedAt 1 = true ∧
      (Instr.store 0xA5).selectedAt 16 = true) ∧
    ((Instr.close 0xA5).wellFormed = true ∧ (Instr.close 0xA5).selectedAt 17 = true) ∧
    (Instr.badframe 0x3F800000 0x40000000 0x40400000 0x3F800000 0xD4).wellFormed = true ∧
    (Instr.noise [0x00, 0xFF]).wellFormed = true := by decide +kernel

theorem witness_FrameFormatIsExact :
    f1Head.length ≠ 18 ∧ ((0xA4 :: f1.tail).length = 18 ∧ (0xA4 :: f1.tail).head? ≠ some 0xA5#8) ∧
    (f1.length = 18 ∧ f1.head? = some 0xA5#8) := by decide

theorem witness_StepRunsDecoded :
    (offered (state 9 f1) [0xA5]).input = PortSample.ofByte 0xA5 :: [] ∧
    decodePorts 9 (PortSample.ofByte 0xA5) = some (.store 0xA5) ∧
    decodePorts 9 { rst := false, inValid := false, inData := 0 } = none ∧
    (state 9 f1).input = [] := by decide

theorem witness_NoInputStopsTheCore :
    (offered (state 17 f1) [0xA5, 0x00]).input = bytesOffered [0xA5] ++ bytesOffered [0x00] := by
  decide

theorem witness_UnselectedByteStepRefused :
    (encode (.store 0) = some [0] ∧ (Instr.store 0).selectedAt 1 = true) ∧
    ((Instr.store 0).selectedAt 0 = false ∧ (Instr.store 0).selectedAt 17 = false) ∧
    (encode (.drop 0xA5) = some [0xA5] ∧ (Instr.drop 0xA5).selectedAt 0 = true ∧
      (Instr.drop 0xA5).wellFormed = false) := by decide

theorem witness_DropChangesNothing : (state 0 f1).cursor = 0 ∧ (0xA4#8 : Byte) ≠ 0xA5#8 := by decide

theorem witness_SyncOpensWindow : (state 0 f1).cursor = 0 := by decide

theorem witness_StoreWritesAtCursor :
    (1 ≤ (state 1 f1).cursor.val ∧ (state 1 f1).cursor.val ≤ 16) ∧
    (1 ≤ (state 16 f1).cursor.val ∧ (state 16 f1).cursor.val ≤ 16) := by decide

/-- Both branches of CLOSE: the checksum `D5` and the checksum `D4` of F1. -/
theorem witness_CloseSettlesTheWindow :
    ((state 17 f1Head).cursor = 17 ∧
      (∀ j : FrameIndex, (f1Frame 0xD5)[j] = if j = 17 then 0xD5 else (state 17 f1Head).readByte j) ∧
      crc8Payload (f1Frame 0xD5) = 0xD5) ∧
    ((∀ j : FrameIndex, (f1Frame 0xD4)[j] = if j = 17 then 0xD4 else (state 17 f1Head).readByte j) ∧
      crc8Payload (f1Frame 0xD4) ≠ 0xD4) := by
  refine ⟨⟨by decide, by decide +kernel, by decide +kernel⟩, by decide +kernel, by decide +kernel⟩

theorem witness_FeedFollowsTransitionTable :
    (state 0 []).cursor = 0 ∧ (1 ≤ (state 1 f1).cursor.val ∧ (state 16 f1).cursor.val ≤ 16) ∧
    ((state 17 f1Head).cursor = 17 ∧ (state 17 f1Head).label 0xD5 = .emit ∧
      (state 17 f1Head).label 0xD4 ≠ .emit) := by decide +kernel

theorem witness_StepOnAByteIsFeed :
    (offered (state 9 f1) [0xA5]).input = PortSample.ofByte 0xA5 :: [] := by decide

theorem witness_CrcByteIsEightBitSteps : (0x8C#8 ^^^ 0x3F#8 : Byte) = 0xB3#8 ^^^ 0x00#8 := by decide

theorem witness_CrcPayloadOverIndices1To16 :
    ∀ i : FrameIndex, i ≠ 0 → i ≠ 17 → (f1Frame 0xD4)[i] = (f1Frame 0xD5)[i] := by decide +kernel

theorem witness_ValidateComparesChecksum :
    crc8Payload (f1Frame 0xD5) = (f1Frame 0xD5)[17] ∧
    crc8Payload (f1Frame 0xD4) ≠ (f1Frame 0xD4)[17] := by decide +kernel

/-- A valid frame, with the first and the last index whose bits may be flipped. -/
theorem witness_CrcDetectsSingleBitErrors :
    crc8Payload (f1Frame 0xD5) = (f1Frame 0xD5)[17] ∧ (1 : FrameIndex) ≠ 0 ∧ (17 : FrameIndex) ≠ 0 ∧
    1 ≤ (1 : FrameIndex).val ∧ (16 : FrameIndex).val ≤ 16 := by decide +kernel

theorem witness_FrameRoundTrip : (state 0 f2).cursor = 0 := by decide

theorem witness_BadframeIsRejected : (state 0 f2).cursor = 0 ∧
    (Instr.badframe 0x3F800000 0x40000000 0x40400000 0x3F800000 0xA5).wellFormed = true := by
  decide +kernel

theorem witness_AlignedFrameSettles : (state 0 f2).cursor = 0 ∧ 0 ≤ 17 ∧ 17 ≤ 17 ∧
    (0xD5 : Byte) = crc8Payload (f1Frame 0xD5) ∧ (0xD4 : Byte) ≠ crc8Payload (f1Frame 0xD4) := by
  decide +kernel

theorem witness_NoiseIsTransparent : (state 0 f2).cursor = 0 ∧
    ∀ b ∈ segment1.noise, b ≠ 0xA5#8 := by decide

theorem witness_PseudoInstructionIsItsBytes :
    encode (.noise [0x00, 0x5A]) = some [0x00, 0x5A] ∧
    (∀ c : FrameIndex, (Instr.noise [0x00, 0x5A]).selectedAt c = false) ∧
    encode (.frame 0x3F800000 0x40000000 0x40400000 0x3F800000) = some f1 ∧
    (∀ c : FrameIndex,
      (Instr.frame 0x3F800000 0x40000000 0x40400000 0x3F800000).selectedAt c = false) := by
  decide +kernel

theorem witness_WindowAbsorbsSeventeenBytes : (state 0 []).cursor = 0 ∧
    ([] : List Byte).length ≤ 16 ∧ (f1.drop 2).length ≤ 16 ∧ f1.tail.length = 17 := by decide

theorem witness_BackToBackFramesAllDecoded : (state 0 []).cursor = 0 ∧
    (∀ g ∈ [segment1, segment1], ∀ b ∈ g.noise, b ≠ 0xA5#8) := by decide

/-- A false window of `A5` and noise (V-F16 has another one), then noise and F1. -/
theorem witness_RecoversAfterFalseWindow : (state 0 []).cursor = 0 ∧ (f1Frame 0xD4)[0] = 0xA5#8 ∧
    crc8Payload (f1Frame 0xD4) ≠ (f1Frame 0xD4)[17] ∧ ∀ b ∈ segment1.noise, b ≠ 0xA5#8 := by
  decide +kernel

/-- A step of each of the three kinds: a stored byte, a reset, a window closed with an emission. -/
theorem witness_EmissionAndCacheGoTogether :
    (∃ t, step (offered (state 9 f1) [0xA5]) = .next t) ∧
    (∃ t, step { state 9 f1 with input := [⟨true, false, 0⟩] } = .next t) ∧
    (∃ t, step (offered (state 17 f1Head) [0xD5]) = .next t ∧ t.emitted.length = 1) :=
  ⟨⟨_, rfl⟩, ⟨_, rfl⟩, ⟨_, rfl, by decide +kernel⟩⟩

theorem witness_OnlyResetClearsPoseValid :
    ∃ t, step { state 9 f1 with input := [⟨true, false, 0⟩] } = .next t ∧
      (state 9 f1).poseValid = true ∧ t.poseValid = false := ⟨_, rfl, rfl, rfl⟩

theorem witness_PortsShowTheStep :
    ∃ t, step (offered (state 17 f1Head) [0xD5]) = .next t ∧ t.measValid = true :=
  ⟨_, rfl, by decide +kernel⟩

/-- A state in the middle of a window, before any frame has validated, that meets the invariant and
takes a step. -/
theorem witness_StepKeepsInvariant :
    (offered { state 2 [0xA5, 0x01] with poseValid := false } [0xA5]).Inv ∧
    ∃ t, step (offered { state 2 [0xA5, 0x01] with poseValid := false } [0xA5]) = .next t := by
  refine ⟨⟨by decide, by decide, ?_, by decide, by decide, by decide⟩, _, rfl⟩
  intro i hi
  have h2 : i < 2 := hi
  interval_cases i <;> rfl

theorem witness_ExecKeepsMemoryCanonical :
    Memory.wf (state 16 (f1.take 16)).buf ∧
    ∃ t, exec (.store 0x3F) (state 16 (f1.take 16)) = .next t := ⟨by decide, _, rfl⟩

theorem witness_CacheIsNeverRead :
    ∃ t, step (offered (state 17 f1Head) [0xD5]) = .next t ∧ t.emitted.length = 1 :=
  ⟨_, rfl, by decide +kernel⟩

/-- Two states with the same window of two bytes, with other stale bytes and another draw. -/
theorem witness_StaleBytesAreNeverRead :
    (state 2 f1).SameWindow { state 2 (0xA5 :: 0x00 :: f2) with draws := 5, poseValid := false } := by
  refine ⟨rfl, ?_⟩
  decide

theorem witness_IncrementalCrcRefines : (state 0 f1).cursor = 0 := by decide

theorem witness_IdleStepKeepsTheCore :
    ({ state 9 f1 with input := [⟨false, false, 0xA5⟩] } : State).input =
      { rst := false, inValid := false, inData := 0xA5 } :: [] := by decide

end Sys2Proof.Machine.Tests
end

