-- ==== Sys2Proof/Proofs/Scope.lean ====
section
/-! PROOFS. The scope family (00_scope.md): `Run` and the measurements the sink receives (R8). -/

namespace Sys2Proof.Machine

/-- CLOSE from the beginning of a step: the sink receives what the measurement ports show (R114,
R38). The strobe must be over before, since a rejected frame leaves it as it was. -/
theorem closeOp_emitted (b : Byte) {s : State} (hm : s.meas = none) :
    (closeOp b s).emitted = s.emitted ++ (closeOp b s).meas.toList := by
  rcases closeOp_cases b s with ⟨_, h⟩ | ⟨_, h⟩
  · simp [h, State.closed]
  · simp [h, State.closed, hm]

/-- What one byte appends to the emitted list is what the measurement ports show after it. -/
theorem State.feed_emitted (s : State) (b : Byte) :
    (s.feed b).emitted = s.emitted ++ (s.feed b).meas.toList := by
  rcases s.feed_cases b with ⟨_, _, hf⟩ | ⟨_, _, hf⟩ | ⟨_, _, hf⟩ | ⟨_, hf⟩ <;> rw [hf]
  · simp
  · simp [syncOp]
  · simp [storeOp]
  · exact closeOp_emitted b s.beginStep_meas

/-- The state component of `Run` is the repeated `Feed` (R8). -/
theorem State.run_fst (s : State) (bytes : List Byte) : (s.run bytes).1 = s.feedAll bytes := by
  induction bytes generalizing s with
  | nil => rfl
  | cons b rest ih => exact ih (s.feed b)

/-- The list component of `Run` is what the bytes append to the emitted list (R8, R175). -/
theorem State.feedAll_emitted (s : State) (bytes : List Byte) :
    (s.feedAll bytes).emitted = s.emitted ++ (s.run bytes).2 := by
  induction bytes generalizing s with
  | nil => simp
  | cons b rest ih =>
    calc ((s.feed b).feedAll rest).emitted
        = (s.feed b).emitted ++ ((s.feed b).run rest).2 := ih (s.feed b)
      _ = s.emitted ++ (s.run (b :: rest)).2 := by simp [s.feed_emitted b]

/-- Settles O35: by induction on the bytes, from what one `Feed` appends. -/
theorem runListsTheEmissions : Obligations.RunListsTheEmissions :=
  fun bytes s => ⟨s.run_fst bytes, s.feedAll_emitted bytes⟩

end Sys2Proof.Machine
end

/-! PROOFS. The state family (10_state.md section 4): what a step can do, and the invariant that
every step keeps (R23, R24, R29, R38, R82, R118). -/

namespace Sys2Proof.Machine

/-! What a step can do. -/

/-- Taking the sample has ended the strobe and the transients already (R34, R38). -/
theorem State.beginStep_advance (s : State) : s.advance.beginStep = s.advance := rfl

/-- All that a step can do (R37, R206): a sample with `rst` resets, one that offers a byte feeds it,
and an idle sample or none lets the core wait. -/
theorem step_cases {s t : State} (h : step s = .next t) :
    (s.nextInstr = none ∧ t = s.advance) ∨
    (∃ p rest, s.input = p :: rest ∧ p.rst = true ∧ t = s.advance.applyReset) ∨
    (∃ p rest, s.input = p :: rest ∧ p.rst = false ∧ p.inValid = true ∧
      t = s.advance.feed p.inData) := by
  cases hin : s.input with
  | nil =>
    have hnone := State.nextInstr_nil hin
    simp only [step, hnone, Host.Outcome.next.injEq] at h
    exact .inl ⟨hnone, h.symm⟩
  | cons p rest =>
    have hnext := State.nextInstr_cons hin
    rcases decodePorts_cases s.cursor p with ⟨hrst, hd⟩ | ⟨hrst, hval, hd⟩ | ⟨-, -, hd⟩ <;>
      rw [hd] at hnext <;> simp only [step, hnext] at h
    · simp only [exec, execReset, Host.Outcome.next.injEq] at h
      exact .inr (.inl ⟨p, rest, rfl, hrst, h.symm⟩)
    · have hfeed := exec_decodeByte s.advance p.inData
      rw [State.beginStep_advance, State.advance_cursor, h, Host.Outcome.next.injEq] at hfeed
      exact .inr (.inr ⟨p, rest, rfl, hrst, hval, hfeed⟩)
    · rw [Host.Outcome.next.injEq] at h
      exact .inl ⟨hnext, h.symm⟩

/-! Written indices and the cursor. -/

/-- A store adds its index to the written ones and takes none away (R56). -/
theorem Memory.isSome_lookup_write (m : Memory) (i j : Nat) (b : Byte) :
    (Memory.lookup (Memory.write m i b) j).isSome ↔ i = j ∨ (Memory.lookup m j).isSome := by
  rw [Memory.lookup_write]
  split <;> simp [*]

/-- Where STORE is selected the cursor does not wrap (R117). -/
theorem cursor_succ_val {c : FrameIndex} (h : c.val ≤ 16) : (c + 1).val = c.val + 1 :=
  Fin.val_add_one_of_lt (Fin.lt_def.2 (Nat.lt_succ_of_le h))

/-! The invariant under the operations a step is made of. -/

/-- The end of the strobe and the transients keeps the invariant (R38, R34). -/
theorem State.Inv.beginStep {s : State} (h : s.Inv) : s.beginStep.Inv :=
  { h with strobeLatest := by simp }

/-- Taking a sample keeps the invariant (R59). -/
theorem State.Inv.advance {s : State} (h : s.Inv) : s.advance.Inv :=
  { h.beginStep with }

/-- RESET keeps the invariant (R230): no window, no valid cache and no strobe are left. -/
theorem State.Inv.applyReset {s : State} (h : s.Inv) : s.applyReset.Inv where
  bufWf := Memory.wf_nil
  syncHeld hc := absurd s.applyReset_cursor hc
  windowWritten _ hi := absurd hi (Nat.not_lt_zero _)
  tagged := h.tagged
  poseLatest := by simp
  strobeLatest := by simp

/-- SYNC keeps the invariant (R112): the new window is the sync byte at index 0. -/
theorem State.Inv.syncOp {s : State} (h : s.Inv) : (syncOp s).Inv :=
  { h with
    bufWf := s.wf_writeByte 0 Config.syncByte h.bufWf
    syncHeld := fun _ => by simp [syncOp_eq, Memory.lookup_write]
    windowWritten := fun _ hi =>
      (Memory.isSome_lookup_write ..).2 (.inl (Nat.lt_one_iff.1 hi).symm) }

/-- STORE keeps the invariant (R113): in ACCUM it leaves index 0 alone and writes the one index by
which the window grows. -/
theorem State.Inv.storeOp {s : State} (h : s.Inv) (b : Byte) (h1 : 1 ≤ s.cursor.val)
    (h2 : s.cursor.val ≤ 16) : (storeOp b s).Inv :=
  { h with
    bufWf := s.wf_writeByte s.cursor b h.bufWf
    syncHeld := fun _ => by
      have hpos : s.cursor.val ≠ 0 := Nat.ne_of_gt h1
      have hold := h.syncHeld fun hc => hpos (Fin.val_eq_of_eq hc)
      simpa only [storeOp_eq, Memory.lookup_write, if_neg hpos] using hold
    windowWritten := fun i hi => by
      have hlt : i < s.cursor.val + 1 := cursor_succ_val h2 ▸ hi
      refine (Memory.isSome_lookup_write ..).2 ?_
      rcases Nat.lt_succ_iff_lt_or_eq.1 hlt with hbelow | hat
      · exact .inr (h.windowWritten i hbelow)
      · exact .inl hat.symm }

/-- The closing of the window keeps the invariant (R114): with the cursor at 0 nothing is asked of
the bytes. -/
theorem State.Inv.closed {s : State} (h : s.Inv) (b : Byte) : (s.closed b).Inv :=
  { h with
    bufWf := s.wf_writeByte 17 b h.bufWf
    syncHeld := fun hc => absurd rfl hc
    windowWritten := fun _ hi => absurd hi (Nat.not_lt_zero _) }

/-- EMIT then CACHE_UPDATE of one tagged measurement keep the invariant (R177). Neither does alone:
between the two a valid cache is not the latest emission. -/
theorem State.Inv.emit_cacheUpdate {s : State} (h : s.Inv) {m : Measurement}
    (hm : m.sourceTag = Config.sourceTag) : ((s.emit m).cacheUpdate m).Inv :=
  { h with
    tagged := fun n hn => by
      rcases List.mem_append.1 hn with hold | hnew
      · exact h.tagged n hold
      · exact List.mem_singleton.1 hnew ▸ hm
    poseLatest := fun _ => ⟨m, List.getLast?_concat, rfl, rfl, rfl⟩
    strobeLatest := fun n hn => by
      obtain rfl : m = n := Option.some.inj hn
      exact List.getLast?_concat }

/-- CLOSE keeps the invariant on both branches (R114). -/
theorem State.Inv.closeOp {s : State} (h : s.Inv) (b : Byte) : (closeOp b s).Inv := by
  rcases closeOp_cases b s with ⟨-, hclose⟩ | ⟨-, hclose⟩ <;> rw [hclose]
  · exact (h.closed b).emit_cacheUpdate rfl
  · exact h.closed b

/-- `Feed` keeps the invariant for every byte (R110, R118). -/
theorem State.Inv.feed {s : State} (h : s.Inv) (b : Byte) : (s.feed b).Inv := by
  rcases s.feed_cases b with ⟨-, -, hf⟩ | ⟨-, -, hf⟩ | ⟨h1, h2, hf⟩ | ⟨-, hf⟩ <;> rw [hf]
  · exact h.beginStep
  · exact h.beginStep.syncOp
  · exact h.beginStep.storeOp b h1 h2
  · exact h.beginStep.closeOp b

/-- Settles O44, by the cases of a step: waiting, RESET and `Feed` each keep the invariant. -/
theorem stepKeepsInvariant : Obligations.StepKeepsInvariant := by
  intro s t hinv hstep
  rcases step_cases hstep with ⟨-, rfl⟩ | ⟨_, _, -, -, rfl⟩ | ⟨p, _, -, -, -, rfl⟩
  · exact hinv.advance
  · exact hinv.advance.applyReset
  · exact hinv.advance.feed p.inData

end Sys2Proof.Machine

/-! PROOFS. The encoding family (30_encoding.md): no input is illegal (R88), so a run over any
samples takes a next state for each of them. -/

namespace Sys2Proof.Machine

/-- Every state has a next state (R88, R203): the ports decoder answers RESET, nothing, or the
byte-step operation whose encoding condition the cursor meets, so that `exec` does not refuse it. -/
theorem exists_step_eq_next (s : State) : ∃ t, step s = .next t := by
  cases hin : s.input with
  | nil => exact ⟨s.advance, by simp only [step, State.nextInstr_nil hin]⟩
  | cons p rest =>
    have hnext := State.nextInstr_cons hin
    rcases decodePorts_cases s.cursor p with ⟨-, hd⟩ | ⟨-, -, hd⟩ | ⟨-, -, hd⟩ <;> rw [hd] at hnext
    · exact ⟨s.advance.applyReset, by simp only [step, hnext, exec, execReset]⟩
    · have hfeed := exec_decodeByte s.advance p.inData
      rw [State.beginStep_advance, State.advance_cursor] at hfeed
      exact ⟨s.advance.feed p.inData, by simp only [step, hnext, hfeed]⟩
    · exact ⟨s.advance, by simp only [step, hnext]⟩

/-- A step takes one sample of the input and leaves the rest (R37, R59). -/
theorem step_input {s t : State} (h : step s = .next t) : t.input = s.input.tail := by
  rcases step_cases h with ⟨-, rfl⟩ | ⟨_, _, -, -, rfl⟩ | ⟨p, _, -, -, -, rfl⟩
  · exact s.advance_input
  · exact s.advance.applyReset_input
  · exact s.advance.feed_input p.inData

/-- A run of `k + 1` steps goes on from the state after its first. -/
theorem run_succ_of_step {M : Host.Core} {s t : M.State} (k : Nat) (h : M.step s = .next t) :
    M.run (k + 1) s = M.run k t := by
  simp only [Host.Core.run, h]

/-- One step for each sample neither faults nor refuses, and leaves the input behind the samples. -/
theorem exists_run_eq_next {samples rest : List PortSample} {s : State}
    (hin : s.input = samples ++ rest) :
    ∃ t : State, Host.Core.run core samples.length s = .next t ∧ t.input = rest := by
  induction samples generalizing s with
  | nil => exact ⟨s, rfl, hin⟩
  | cons p samples ih =>
    obtain ⟨u, hu⟩ := exists_step_eq_next s
    have huin : u.input = samples ++ rest := by rw [step_input hu, hin]; rfl
    obtain ⟨t, hrun, ht⟩ := ih huin
    exact ⟨t, (run_succ_of_step samples.length hu).trans hrun, ht⟩

/-- A state is in SEARCH with the cursor at 0, or in ACCUM with the cursor in 1..17 (R25, R27). -/
theorem State.mode_cases (s : State) :
    (s.mode = .search ∧ s.cursor = 0) ∨
    (s.mode = .accum ∧ 1 ≤ s.cursor.val ∧ s.cursor.val ≤ 17) := by
  by_cases hc : s.cursor = 0
  · exact .inl ⟨if_pos hc, hc⟩
  · have hpos : 1 ≤ s.cursor.val := Nat.one_le_iff_ne_zero.2 (Fin.val_ne_zero_iff.2 hc)
    exact .inr ⟨if_neg hc, hpos, Nat.le_of_lt_succ s.cursor.isLt⟩

/-- Settles O6: the run over the samples has a last state, and every state is in SEARCH or ACCUM. -/
theorem noInputStopsTheCore : Obligations.NoInputStopsTheCore := by
  intro samples rest s hin
  obtain ⟨t, hrun, ht⟩ := exists_run_eq_next hin
  exact ⟨t, hrun, ht, t.mode_cases⟩

end Sys2Proof.Machine

/-! PROOFS. The Frame Assembler family (40_frame_assembler.md): the byte-step operations R111 to
R114, the assembler on its own (R123), the window while it fills (R24, R120), and the runs over
noise and frames (R119, R121). -/

namespace Sys2Proof

/-- The bytes of a frame one further: the bytes so far, then the byte at their number. -/
theorem Frame.toList_take_succ (f : Frame) {n : Nat} (hn : n < 18) :
    f.toList.take (n + 1) = f.toList.take n ++ [f[n]] := by
  simp [List.take_succ_eq_append_getElem, hn]

end Sys2Proof

namespace Sys2Proof.Machine

/-! The byte-step operations executed on their own, where R86 selects them. -/

/-- DROP where R86 selects it (R111). -/
theorem exec_drop {s : State} {b : Byte} (hc : s.cursor = 0) (hb : b ≠ Config.syncByte) :
    exec (.drop b) s = .next s := if_pos ⟨hc, hb⟩

/-- SYNC where R86 selects it (R112). -/
theorem exec_sync {s : State} (hc : s.cursor = 0) : exec .sync s = .next (syncOp s) := if_pos hc

/-- STORE where R86 selects it (R113). -/
theorem exec_store {s : State} {b : Byte} (h1 : 1 ≤ s.cursor.val) (h2 : s.cursor.val ≤ 16) :
    exec (.store b) s = .next (storeOp b s) := if_pos ⟨h1, h2⟩

/-- CLOSE where R86 selects it (R114). -/
theorem exec_close {s : State} {b : Byte} (hc : s.cursor = 17) :
    exec (.close b) s = .next (closeOp b s) := if_pos hc

/-! The buffer after SYNC and STORE. -/

/-- The buffer after SYNC (R112). -/
theorem readByte_syncOp (s : State) (j : FrameIndex) :
    (syncOp s).readByte j = if j = 0 then Config.syncByte else s.readByte j := by
  simp [syncOp, eq_comm]

/-- The buffer after STORE (R113). -/
theorem readByte_storeOp (b : Byte) (s : State) (j : FrameIndex) :
    (storeOp b s).readByte j = if j = s.cursor then b else s.readByte j := by
  simp [storeOp, eq_comm]

/-! The outcome labels (R12). -/

/-- The label in SEARCH on a byte that is not the sync byte. -/
theorem State.label_drop {s : State} {b : Byte} (hc : s.cursor = 0) (hb : b ≠ Config.syncByte) :
    s.label b = .drop := by
  simp [State.label, hc, hb]

/-- The label in SEARCH on the sync byte. -/
theorem State.label_sync {s : State} (hc : s.cursor = 0) : s.label Config.syncByte = .sync := by
  simp [State.label, hc]

/-- The label in ACCUM before the last byte. -/
theorem State.label_store {s : State} {b : Byte} (h1 : 1 ≤ s.cursor.val) (h2 : s.cursor.val ≤ 16) :
    s.label b = .store := by
  have h0 : s.cursor ≠ 0 := fun h => by simp [h] at h1
  simp [State.label, h0, h2]

/-- The label in ACCUM on the last byte: the verdict of the CRC. -/
theorem State.label_close {s : State} {b : Byte} (hc : s.cursor = 17) :
    s.label b = if crc8Payload (s.writeByte 17 b).readFrame = b then .emit else .reject := by
  simp [State.label, hc]

/-- The failure kind that goes with the label DROP (R201). -/
theorem State.failure_of_drop {s : State} {b : Byte} (h : s.label b = .drop) :
    s.failure b = some .syncLoss := by
  simp [State.failure, h]

/-- The failure kind that goes with the label REJECT (R202). -/
theorem State.failure_of_reject {s : State} {b : Byte} (h : s.label b = .reject) :
    s.failure b = some .checksumMismatch := by
  simp [State.failure, h]

/-! The statements about one byte-step operation. -/

/-- Settles O8: under the encoding condition of DROP, its equation, label and failure kind. -/
theorem dropChangesNothing : Obligations.DropChangesNothing := by
  intro s b hc hb
  have hlabel : s.label b = .drop := State.label_drop hc hb
  exact ⟨exec_drop hc hb, hlabel, State.failure_of_drop hlabel⟩

/-- Settles O9: the buffer by the read rule of SYNC, the other fields by its equation. -/
theorem syncOpensWindow : Obligations.SyncOpensWindow := by
  intro s hc
  refine ⟨syncOp s, exec_sync hc, ?_, fun j hj => ?_, syncOp_eq s, State.label_sync hc⟩
  · rw [readByte_syncOp, if_pos rfl, Config.syncByte]
  · rw [readByte_syncOp, if_neg hj]

/-- Settles O10: the buffer by the read rule of STORE, the cursor by R117. -/
theorem storeWritesAtCursor : Obligations.StoreWritesAtCursor := by
  intro s b h1 h2
  refine ⟨storeOp b s, exec_store h1 h2, ?_, fun j hj => ?_, cursor_succ_val h2, storeOp_eq b s,
    State.label_store h1 h2⟩
  · rw [readByte_storeOp, if_pos rfl]
  · rw [readByte_storeOp, if_neg hj]

/-- The candidate frame that CLOSE validates is the window with its byte at index 17 (R114). -/
theorem State.readFrame_writeByte_last {s : State} {b : Byte} {f : Frame}
    (hf : ∀ j : FrameIndex, f[j] = if j = 17 then b else s.readByte j) :
    (s.writeByte 17 b).readFrame = f := by
  refine Vector.ext fun i hi => ?_
  rw [State.getElem_readFrame, State.readByte_writeByte]
  simp only [eq_comm (a := (17 : FrameIndex))]
  exact (hf ⟨i, hi⟩).symm

/-- Settles O11: the candidate frame is `f`, and CLOSE takes one of its two branches by the CRC. -/
theorem closeSettlesTheWindow : Obligations.CloseSettlesTheWindow := by
  intro s b f hc hf
  have hframe : (s.writeByte 17 b).readFrame = f := State.readFrame_writeByte_last hf
  have hlabel := State.label_close (b := b) hc
  have hcases := closeOp_cases b s
  rw [hframe] at hlabel hcases
  obtain ⟨-, hcur, -⟩ := closeOp_frame b s
  refine ⟨closeOp b s, exec_close hc, hcur,
    fun j => (readByte_closeOp b s j).trans (hf j).symm, fun hcrc => ?_, fun hcrc => ?_⟩
  · rcases hcases with ⟨-, hclose⟩ | ⟨hne, -⟩
    · refine ⟨hlabel.trans (if_pos hcrc), decodeFields f, rfl, rfl, rfl, rfl, rfl, ?_⟩
      rw [hclose]
      rfl
    · exact absurd hcrc hne
  · rcases hcases with ⟨heq, -⟩ | ⟨-, hclose⟩
    · exact absurd heq hcrc
    · have hreject : s.label b = .reject := hlabel.trans (if_neg hcrc)
      refine ⟨hreject, State.failure_of_reject hreject, ?_⟩
      rw [hclose]
      rfl

/-! The assembler on its own (R123). -/

/-- The assembler in SEARCH on a byte that is not the sync byte. -/
theorem State.assemble_drop {s : State} {b : Byte} (hc : s.cursor = 0) (hb : b ≠ Config.syncByte) :
    s.assemble b = (s, none) := by
  simp [State.assemble, hc, hb]

/-- The assembler in SEARCH on the sync byte. -/
theorem State.assemble_sync {s : State} (hc : s.cursor = 0) :
    s.assemble Config.syncByte = (syncOp s, none) := by
  simp [State.assemble, hc]

/-- The assembler in ACCUM before the last byte. -/
theorem State.assemble_store {s : State} {b : Byte} (h1 : 1 ≤ s.cursor.val)
    (h2 : s.cursor.val ≤ 16) : s.assemble b = (storeOp b s, none) := by
  have h0 : s.cursor ≠ 0 := fun h => by simp [h] at h1
  simp [State.assemble, h0, h2]

/-- The assembler in ACCUM on the last byte gives the candidate frame away. -/
theorem State.assemble_close {s : State} {b : Byte} (hc : s.cursor = 17) :
    s.assemble b = (s.closed b, some (s.writeByte 17 b).readFrame) := by
  simp [State.assemble, hc]

/-- Settles O14, by the four cases of `Feed`: only the last one hands a frame over, and the
validator settles it as CLOSE does. -/
theorem assemblerThenValidatorIsFeed : Obligations.AssemblerThenValidatorIsFeed := by
  intro s b
  rcases s.feed_cases b with ⟨hc, hb, hf⟩ | ⟨hc, rfl, hf⟩ | ⟨h1, h2, hf⟩ | ⟨hc, hf⟩ <;> rw [hf]
  · rw [State.assemble_drop (s := s.beginStep) hc hb]; rfl
  · rw [State.assemble_sync (s := s.beginStep) hc]; rfl
  · rw [State.assemble_store (s := s.beginStep) h1 h2]; rfl
  · rw [State.assemble_close (s := s.beginStep) hc]; rfl

/-! Noise in SEARCH (R119). -/

/-- Noise leaves no more than the beginning of its first step does. -/
theorem State.feedAll_noise {bytes : List Byte} {s : State} (hc : s.cursor = 0)
    (hb : ∀ b ∈ bytes, b ≠ Config.syncByte) (hne : bytes ≠ []) :
    s.feedAll bytes = s.beginStep := by
  induction bytes generalizing s with
  | nil => exact absurd rfl hne
  | cons b rest ih =>
    obtain ⟨hhead, htail⟩ := List.forall_mem_cons.1 hb
    rw [State.feedAll_cons, State.feed_drop hc hhead]
    cases rest with
    | nil => rfl
    | cons c cs => exact ih (s := s.beginStep) hc htail (List.cons_ne_nil c cs)

/-- After noise the core is in SEARCH still. -/
theorem State.run_noise_cursor {bytes : List Byte} {s : State} (hc : s.cursor = 0)
    (hb : ∀ b ∈ bytes, b ≠ Config.syncByte) : (s.run bytes).1.cursor = 0 := by
  rw [State.run_fst]
  by_cases hne : bytes = []
  · rwa [hne, State.feedAll_nil]
  · rwa [State.feedAll_noise hc hb hne]

/-- Noise emits nothing. -/
theorem State.run_noise_snd {bytes : List Byte} {s : State} (hc : s.cursor = 0)
    (hb : ∀ b ∈ bytes, b ≠ Config.syncByte) : (s.run bytes).2 = [] := by
  induction bytes generalizing s with
  | nil => rfl
  | cons b rest ih =>
    obtain ⟨hhead, htail⟩ := List.forall_mem_cons.1 hb
    rw [State.run_cons, State.feed_drop hc hhead]
    exact ih (s := s.beginStep) hc htail

/-- Settles O33: NOISE is the run over its bytes, which ends as the beginning of a step does. -/
theorem noiseIsTransparent : Obligations.NoiseIsTransparent := by
  intro bytes s hc hb
  refine ⟨State.run_noise_snd hc hb, s.feedAll bytes, rfl, ?_, fun hne => ?_⟩
  · rintro rfl
    exact s.feedAll_nil
  · exact State.feedAll_noise hc hb hne

/-! The window of a frame while it fills (R24, R120). -/

/-- The window in progress holds the first `n` bytes of `f`. -/
structure State.WindowOf (s : State) (f : Frame) (n : Nat) : Prop where
  /-- The window is `n` bytes long (R25). -/
  cursor : s.cursor.val = n
  /-- Below the cursor the buffer reads as `f` does. -/
  bytes : ∀ i : FrameIndex, i.val < n → s.readByte i = f[i]

/-- The sync byte opens the window of a frame that begins with it, and emits nothing. -/
theorem State.windowOf_feed_sync {s : State} {f : Frame} (hc : s.cursor = 0)
    (h0 : f[0] = Config.syncByte) : (s.feed f[0]).WindowOf f 1 ∧ (s.feed f[0]).meas = none := by
  rw [h0, State.feed_sync hc]
  refine ⟨⟨rfl, fun i hi => ?_⟩, rfl⟩
  obtain rfl : i = 0 := Fin.ext (Nat.lt_one_iff.1 hi)
  rw [readByte_syncOp, if_pos rfl]
  exact h0.symm

/-- The next byte of the frame makes its window grow by one, and emits nothing (R113). -/
theorem State.WindowOf.feed_store {s : State} {f : Frame} {n : Nat} (hw : s.WindowOf f n)
    (h1 : 1 ≤ n) (h2 : n ≤ 16) :
    (s.feed f[n]).WindowOf f (n + 1) ∧ (s.feed f[n]).meas = none := by
  obtain ⟨rfl, hbytes⟩ := hw
  rw [State.feed_store h1 h2]
  refine ⟨⟨cursor_succ_val h2, fun i hi => ?_⟩, rfl⟩
  rw [readByte_storeOp, State.beginStep_cursor, State.readByte_beginStep]
  split
  · next heq => subst heq; rfl
  · next hne => exact hbytes i (Nat.lt_of_le_of_ne (Nat.le_of_lt_succ hi) (Fin.val_ne_of_ne hne))

/-- The last byte of the frame closes its window: the measurement ports show the decoded frame when
the checksum matches and nothing when it does not (R114). -/
theorem State.WindowOf.feed_close {s : State} {f : Frame} (hw : s.WindowOf f 17) :
    (s.feed f[17]).cursor = 0 ∧
      (s.feed f[17]).meas = if crc8Payload f = f[17] then some (decodeFields f) else none := by
  have hframe : (s.beginStep.writeByte 17 f[17]).readFrame = f := by
    refine State.readFrame_writeByte_last fun j => ?_
    split
    · next heq => subst heq; rfl
    · next hne =>
      exact (hw.bytes j (Nat.lt_of_le_of_ne (Nat.le_of_lt_succ j.isLt) (Fin.val_ne_of_ne hne))).symm
  rw [State.feed_close (Fin.ext hw.cursor)]
  obtain ⟨-, hcur, -⟩ := closeOp_frame f[17] s.beginStep
  have hcases := closeOp_cases f[17] s.beginStep
  rw [hframe] at hcases
  refine ⟨hcur, ?_⟩
  rcases hcases with ⟨hcrc, hclose⟩ | ⟨hcrc, hclose⟩ <;> rw [hclose]
  · rw [if_pos hcrc]; rfl
  · rw [if_neg hcrc]; rfl

/-! Runs over frames (R120, R121). -/

/-- The first 1 to 17 bytes of a frame, from SEARCH, fill the window and emit nothing (R120). -/
theorem State.run_frame_take {s : State} {f : Frame} (hc : s.cursor = 0)
    (h0 : f[0] = Config.syncByte) {n : Nat} (hn : n ≤ 16) :
    (s.run (f.toList.take (n + 1))).1.WindowOf f (n + 1) ∧
      (s.run (f.toList.take (n + 1))).2 = [] := by
  induction n with
  | zero =>
    obtain ⟨hw, hm⟩ := State.windowOf_feed_sync hc h0
    rw [Frame.toList_take_succ f (by omega), List.take_zero, List.nil_append, State.run_cons, hm]
    exact ⟨hw, rfl⟩
  | succ n ih =>
    obtain ⟨hw, hnone⟩ := ih (by omega)
    obtain ⟨hw', hm⟩ := hw.feed_store (by omega) hn
    rw [Frame.toList_take_succ f (by omega), State.run_append, hnone, State.run_cons, hm]
    exact ⟨hw', rfl⟩

/-- A frame that begins with the sync byte, from SEARCH, ends in SEARCH and emits its measurement
when its checksum matches, and nothing when it does not (R120). -/
theorem State.run_frame {s : State} {f : Frame} (hc : s.cursor = 0) (h0 : f[0] = Config.syncByte) :
    (s.run f.toList).1.cursor = 0 ∧
      (s.run f.toList).2 = if crc8Payload f = f[17] then [decodeFields f] else [] := by
  have hlast : f.toList = f.toList.take 17 ++ [f[17]] := by
    rw [← Frame.toList_take_succ f (by omega), List.take_of_length_le (by simp)]
  obtain ⟨hw, hnone⟩ := State.run_frame_take hc h0 (Nat.le_refl 16)
  obtain ⟨hcur, hm⟩ := hw.feed_close
  rw [hlast, State.run_append, hnone, State.run_cons, hm]
  refine ⟨hcur, ?_⟩
  split <;> rfl

/-- The bytes of a segment without the last one end one byte short of its frame's end. -/
theorem Segment.dropLast_bytes (g : Segment) :
    g.bytes.dropLast = g.noise ++ (encodeFrame g.x g.y g.z g.stdDev).toList.take 17 := by
  simp [Segment.bytes, List.dropLast_eq_take, List.take_append]

/-- A segment, from SEARCH, ends in SEARCH and emits the measurement of its frame, at its last byte
and not before (R119, R120). -/
theorem State.run_segment {s : State} {g : Segment} (hc : s.cursor = 0)
    (hb : ∀ b ∈ g.noise, b ≠ Config.syncByte) :
    (s.run g.bytes).1.cursor = 0 ∧ (s.run g.bytes).2 = [g.measurement] ∧
      (s.run g.bytes.dropLast).2 = [] := by
  have hsearch := State.run_noise_cursor hc hb
  obtain ⟨hcur, hsnd⟩ := State.run_frame (f := encodeFrame g.x g.y g.z g.stdDev) hsearch rfl
  obtain ⟨-, hnone⟩ :=
    State.run_frame_take (f := encodeFrame g.x g.y g.z g.stdDev) hsearch rfl (Nat.le_refl 16)
  rw [if_pos (crc8Payload_encodeFrame ..), decodeFields_encodeFrame] at hsnd
  rw [Segment.dropLast_bytes, Segment.bytes, State.run_append, State.run_append,
    State.run_noise_snd hc hb, hsnd, hnone]
  exact ⟨hcur, rfl, rfl⟩

/-- Segments one after another, from SEARCH, emit one measurement each and end in SEARCH (R121). -/
theorem State.run_segments {segs : List Segment} {s : State} (hc : s.cursor = 0)
    (hb : ∀ g ∈ segs, ∀ b ∈ g.noise, b ≠ Config.syncByte) :
    (s.run (segs.flatMap Segment.bytes)).2 = segs.map Segment.measurement ∧
      (s.run (segs.flatMap Segment.bytes)).1.cursor = 0 := by
  induction segs generalizing s with
  | nil => exact ⟨rfl, hc⟩
  | cons g rest ih =>
    obtain ⟨hhead, htail⟩ := List.forall_mem_cons.1 hb
    obtain ⟨hcur, hsnd, -⟩ := State.run_segment hc hhead
    obtain ⟨hrest, hend⟩ := ih hcur htail
    rw [List.flatMap_cons, State.run_append, hsnd, hrest]
    exact ⟨rfl, hend⟩

/-- Settles O38: the segments before leave the core in SEARCH, and a further one emits nothing
before its last byte. -/
theorem backToBackFramesAllDecoded : Obligations.BackToBackFramesAllDecoded := by
  intro segs s hc hb
  obtain ⟨hsnd, hcur⟩ := State.run_segments hc hb
  refine ⟨hsnd, hcur, fun g hg => ?_⟩
  obtain ⟨-, -, hnone⟩ := State.run_segment hcur hg
  rw [State.run_append, hsnd, hnone, List.append_nil]

end Sys2Proof.Machine

/-! PROOFS. The CRC-8 validator family (41_crc8_validator.md): the bit step and the byte step (R140,
R141), the table form (R147), zero bytes (R149), and the operations of the validator executed on
their own (R140, R141, R144, R145). -/

namespace Sys2Proof

/-! The bit step (R140). -/

/-- `mix` is the XOR of the two low bits (R140). -/
theorem crc8Mix_eq_one_iff (crc byte : Byte) :
    crc8Mix crc byte = 1 ↔ (crc.getLsbD 0 ^^ byte.getLsbD 0) = true := by
  rw [crc8Mix, show (0x01 : Byte) = 1#8 from rfl, BitVec.and_one_eq_setWidth_ofBool_getLsbD,
    BitVec.getLsbD_xor]
  cases crc.getLsbD 0 ^^ byte.getLsbD 0 <;> decide

/-- The bits of `0x8C` (R140). -/
theorem getLsbD_crcPoly {k : Nat} (hk : k < 8) :
    Config.crcPoly.getLsbD k = decide (k = 7 ∨ k = 3 ∨ k = 2) := by
  have hbits : ∀ i : Fin 8,
      Config.crcPoly.getLsbD i = decide (i.val = 7 ∨ i.val = 3 ∨ i.val = 2) := by decide
  exact hbits ⟨k, hk⟩

/-- Every bit of the CRC after a bit step: the bit above it, with `mix` XORed in where `0x8C` has a
bit (R140). -/
theorem getLsbD_crc8Bit_fst (crc byte : Byte) {k : Nat} (hk : k < 8) :
    (crc8Bit crc byte).1.getLsbD k = (crc.getLsbD (k + 1) ^^
      (decide (k = 7 ∨ k = 3 ∨ k = 2) && (crc.getLsbD 0 ^^ byte.getLsbD 0))) := by
  by_cases hmix : crc8Mix crc byte = 1
  · rw [crc8Bit_fst_of_mix hmix, (crc8Mix_eq_one_iff crc byte).1 hmix, BitVec.getLsbD_xor,
      getLsbD_crcPoly hk, BitVec.getLsbD_ushiftRight, Nat.add_comm, Bool.and_true]
  · have hlow := Bool.eq_false_of_not_eq_true (mt (crc8Mix_eq_one_iff crc byte).2 hmix)
    rw [crc8Bit_fst_of_not_mix hmix, hlow, BitVec.getLsbD_ushiftRight, Nat.add_comm,
      Bool.and_false, Bool.xor_false]

/-- A bit step sees its operands only through their XOR: after it the XOR of the new pair is again
a function of the XOR of the old one. -/
theorem crc8Bit_xor_congr {crc d crc' d' : Byte} (h : crc' ^^^ d' = crc ^^^ d) :
    (crc8Bit crc' d').1 ^^^ (crc8Bit crc' d').2 = (crc8Bit crc d).1 ^^^ (crc8Bit crc d).2 := by
  have hshift : (crc' >>> 1) ^^^ (d' >>> 1) = (crc >>> 1) ^^^ (d >>> 1) := by
    rw [← BitVec.ushiftRight_xor_distrib, h, BitVec.ushiftRight_xor_distrib]
  have hmix : crc8Mix crc' d' = crc8Mix crc d := by rw [crc8Mix, h, crc8Mix]
  have hswap (a b p : Byte) : a ^^^ p ^^^ b = a ^^^ b ^^^ p := by ac_rfl
  by_cases hm : crc8Mix crc d = 1
  · rw [crc8Bit_fst_of_mix hm, crc8Bit_fst_of_mix (hmix.trans hm), crc8Bit_snd, crc8Bit_snd,
      hswap, hshift, hswap]
  · rw [crc8Bit_fst_of_not_mix hm, crc8Bit_fst_of_not_mix (hmix ▸ hm), crc8Bit_snd, crc8Bit_snd,
      hshift]

/-! The repeated bit step and the byte step (R141). -/

/-- The `repeat` of R141 is the iterate of the bit step. -/
theorem crc8Bits_eq_iterate (n : Nat) (crc d : Byte) :
    crc8Bits n crc d = (fun p : Byte × Byte => crc8Bit p.1 p.2)^[n] (crc, d) := by
  induction n generalizing crc d with
  | zero => rfl
  | succ n ih => exact ih (crc8Bit crc d).1 (crc8Bit crc d).2

/-- The repeated bit step consumes the byte least significant bit first. -/
theorem crc8Bits_snd (n : Nat) (crc d : Byte) : (crc8Bits n crc d).2 = d >>> n := by
  induction n generalizing crc d with
  | zero => exact (BitVec.ushiftRight_zero d).symm
  | succ n ih => rw [crc8Bits, ih, crc8Bit_snd, ← BitVec.shiftRight_add, Nat.add_comm]

/-- After the eighth repetition nothing of the byte is left (R141). -/
theorem crc8Bits_eight (crc d : Byte) : crc8Bits 8 crc d = (crc8Byte crc d, 0#8) :=
  Prod.ext rfl ((crc8Bits_snd 8 crc d).trans (BitVec.ushiftRight_eq_zero (Nat.le_refl 8)))

/-- The repeated bit step sees its operands only through their XOR. -/
theorem crc8Bits_xor_congr (n : Nat) {crc d crc' d' : Byte} (h : crc' ^^^ d' = crc ^^^ d) :
    (crc8Bits n crc' d').1 ^^^ (crc8Bits n crc' d').2 =
      (crc8Bits n crc d).1 ^^^ (crc8Bits n crc d).2 := by
  induction n generalizing crc d crc' d' with
  | zero => exact h
  | succ n ih => exact ih (crc8Bit_xor_congr h)

/-- CRC8_BYTE depends only on the XOR of its operands (R141): with the byte used up, the XOR that
the bit steps keep track of is the CRC itself. -/
theorem crc8Byte_congr {crc d crc' d' : Byte} (h : crc' ^^^ d' = crc ^^^ d) :
    crc8Byte crc' d' = crc8Byte crc d := by
  simpa only [crc8Bits_eight, BitVec.xor_zero] using crc8Bits_xor_congr 8 h

/-- Two zero bytes give zero (R141). -/
theorem crc8Byte_zero_zero : crc8Byte 0#8 0#8 = 0#8 := by decide

/-! The table form (R147). -/

/-- A row of the table as R147 derives it: the CRCs of the 16 bytes from `16*r` on. -/
def crcRow (r : Nat) : List Byte :=
  (List.range' (16 * r) 16).map fun v => crc8Byte 0#8 (BitVec.ofNat 8 v)

/-- The printed rows `0x` to `7x`, each evaluated. -/
theorem crcTableLow_eq :
    crcTableLow = crcRow 0 ++ crcRow 1 ++ crcRow 2 ++ crcRow 3 ++
      crcRow 4 ++ crcRow 5 ++ crcRow 6 ++ crcRow 7 := rfl

/-- The printed rows `8x` to `Fx`, each evaluated. -/
theorem crcTableHigh_eq :
    crcTableHigh = crcRow 8 ++ crcRow 9 ++ crcRow 10 ++ crcRow 11 ++
      crcRow 12 ++ crcRow 13 ++ crcRow 14 ++ crcRow 15 := rfl

/-- Rows one after another are the CRCs of consecutive bytes. -/
theorem flatMap_crcRow (n : Nat) : (List.range n).flatMap crcRow =
    (List.range (16 * n)).map fun v => crc8Byte 0#8 (BitVec.ofNat 8 v) := by
  induction n with
  | zero => rfl
  | succ n ih =>
    have hrange : List.range (16 * (n + 1)) = List.range (16 * n) ++ List.range' (16 * n) 16 := by
      rw [List.range_eq_range', List.range_eq_range', Nat.mul_succ, ← List.range'_append_1,
        Nat.zero_add]
    rw [List.range_succ, List.flatMap_append, ih, List.flatMap_singleton, crcRow, hrange,
      List.map_append]

/-- The printed table lists the CRCs of all bytes in increasing order (R147). -/
theorem crcTable_eq :
    crcTable = (List.range 256).map fun v => crc8Byte 0#8 (BitVec.ofNat 8 v) := by
  have hrows : crcTable = (List.range 16).flatMap crcRow := by
    simp [crcTable, crcTableLow_eq, crcTableHigh_eq, List.range_succ]
  rw [hrows, flatMap_crcRow]

/-- An entry of the table is the CRC of its index, from `0x00` (R147). -/
theorem getElem?_crcTable (v : Byte) : crcTable[v.toNat]? = some (crc8Byte 0#8 v) := by
  rw [crcTable_eq, List.getElem?_map, List.getElem?_range v.isLt, Option.map_some,
    BitVec.ofNat_toNat, BitVec.setWidth_eq]

/-- Settles O17: the printed entries are CRCs from `0x00`, and by R141 every other start value
reduces to that one. -/
theorem crcTableForm : Obligations.CrcTableForm := by
  refine ⟨by rw [crcTable_eq, List.length_map, List.length_range], getElem?_crcTable, fun c d => ?_⟩
  have hzero : crc8Byte 0#8 (c ^^^ d) = crc8Byte c d := crc8Byte_congr BitVec.zero_xor
  rw [getElem?_crcTable, hzero]

/-! Zero bytes (R149). -/

/-- Zero bytes leave the CRC at zero. -/
theorem crc8List_replicate_zero (n : Nat) : crc8List 0#8 (List.replicate n 0#8) = 0#8 := by
  induction n with
  | zero => rfl
  | succ n ih => rw [List.replicate_succ, crc8List_cons, crc8Byte_zero_zero, ih]

/-- The window `A5` followed by seventeen `00`, as a frame of the format. -/
theorem zeroWindow_eq_frameOf : #v[0xA5#8] ++ Vector.replicate 17 0#8 = frameOf 0 0 0 0 0 := by
  decide

/-- The checksum of four patterns of zero is `0x00`: their payload is sixteen zero bytes. -/
theorem frameChecksum_zero : frameChecksum 0 0 0 0 = 0#8 := by
  have hpayload : (frameOf 0 0 0 0 0).payload = List.replicate 16 0#8 := by decide
  rw [frameChecksum, crc8Payload, hpayload, Config.crcInit, crc8List_replicate_zero]

/-! What the validator looks at (R84, R144). -/

/-- The payload does not contain index 0. -/
theorem Frame.payload_set_sync (f : Frame) (b : Byte) :
    Frame.payload (f.set 0 b) = f.payload := by
  simp [Frame.payload]

/-- The payload does not contain the checksum byte. -/
theorem Frame.payload_set_checksum (f : Frame) (k : Byte) :
    Frame.payload (f.set 17 k) = f.payload := by
  simp [Frame.payload]

/-- DECODE does not look at index 0. -/
theorem decodeFields_set_sync (f : Frame) (b : Byte) :
    decodeFields (f.set 0 b) = decodeFields f := by
  simp [decodeFields]

end Sys2Proof

namespace Sys2Proof.Machine

/-! The operations of the validator executed on their own. -/

/-- CRC8_BIT gives its pair back (R140). -/
theorem exec_crc8Bit (crc byte : Byte) (s : State) :
    exec (.crc8Bit crc byte) s =
      .next { s with ret := .bit (crc8Bit crc byte).1 (crc8Bit crc byte).2 } := rfl

/-- CRC8_BYTE gives the CRC back (R141). -/
theorem exec_crc8Byte (crc d : Byte) (s : State) :
    exec (.crc8Byte crc d) s = .next { s with ret := .crc (crc8Byte crc d) } := rfl

/-- VALIDATE_AND_DECODE gives its verdict back (R144). -/
theorem exec_validateAndDecode (f : Frame) (s : State) :
    exec (.validateAndDecode f) s = .next { s with ret := .verdict (validateAndDecode f) } := rfl

/-- REJECT is the state change `rejectOp` (R145). -/
theorem exec_reject (s : State) : exec .reject s = .next (rejectOp s) := rfl

/-- Settles O20: REJECT only absorbs its failure kind. -/
theorem rejectChangesNothing : Obligations.RejectChangesNothing := by
  intro s
  rw [exec_reject, rejectOp_eq]

/-- Settles O15: the CRC by its bits, the byte by the value of a shift by one. -/
theorem crcBitStep : Obligations.CrcBitStep := by
  intro crc byte s
  refine ⟨_, _, exec_crc8Bit crc byte s, fun k hk => getLsbD_crc8Bit_fst crc byte hk, ?_⟩
  rw [crc8Bit_snd, BitVec.toNat_ushiftRight, Nat.shiftRight_one]

/-- Settles O16: the eight bit steps use the byte up and see only the XOR of the pair. -/
theorem crcByteIsEightBitSteps : Obligations.CrcByteIsEightBitSteps := by
  refine ⟨fun crc d s => ⟨crc8Byte crc d, exec_crc8Byte crc d s, ?_, fun _ _ => crc8Byte_congr⟩,
    crc8Byte_zero_zero⟩
  rw [← crc8Bits_eq_iterate, crc8Bits_eight]

/-! The verdict (R144). -/

/-- The verdict is a mismatch unless the checksum byte is the CRC of the payload (R144). -/
theorem validateAndDecode_ne_mismatch_iff (f : Frame) :
    validateAndDecode f ≠ .checksumMismatch ↔ crc8Payload f = f[17] := by
  by_cases h : crc8Payload f = f[17]
  · rw [validateAndDecode_of_match h]
    exact iff_of_true Verdict.noConfusion h
  · rw [validateAndDecode_of_mismatch h]
    exact iff_of_false (fun hne => hne rfl) h

/-- The verdict does not depend on index 0 (R144, D19). -/
theorem validateAndDecode_set_sync (f : Frame) (b : Byte) :
    validateAndDecode (f.set 0 b) = validateAndDecode f := by
  have hcrc : crc8Payload (f.set 0 b) = crc8Payload f :=
    crc8Payload_congr (f.payload_set_sync b)
  have hlast : (f.set 0 b)[17] = f[17] := Vector.getElem_set_ne _ _ (by decide)
  rw [validateAndDecode, hcrc, hlast, decodeFields_set_sync, validateAndDecode]

/-- With its checksum byte replaced a frame is accepted just when that byte is the CRC (R144). -/
theorem validateAndDecode_set_checksum_ne_mismatch_iff (f : Frame) (k : Byte) :
    validateAndDecode (f.set 17 k) ≠ .checksumMismatch ↔ k = crc8Payload f := by
  have hcrc : crc8Payload (f.set 17 k) = crc8Payload f :=
    crc8Payload_congr (f.payload_set_checksum k)
  rw [validateAndDecode_ne_mismatch_iff, hcrc, Vector.getElem_set_self, eq_comm]

/-- Settles O19: the two branches of the comparison, and the one checksum byte that is accepted is
the CRC of the payload. -/
theorem validateComparesChecksum : Obligations.ValidateComparesChecksum := by
  intro f s
  refine ⟨fun hmatch => ?_, fun hne => ?_, validateAndDecode_set_sync f, crc8Payload f,
    (validateAndDecode_set_checksum_ne_mismatch_iff f _).2 rfl,
    fun k => (validateAndDecode_set_checksum_ne_mismatch_iff f k).1⟩
  · rw [exec_validateAndDecode, validateAndDecode_of_match hmatch, decodeFields]
  · rw [exec_validateAndDecode, validateAndDecode_of_mismatch hne]

/-- Settles O22: zero bytes leave the CRC at zero, so the all-zero window is the frame of the format
with its correct checksum. -/
theorem zeroPayloadIsValid : Obligations.ZeroPayloadIsValid := by
  refine ⟨fun n bs => ?_, crc8List_replicate_zero 16, ?_⟩
  · rw [crc8List_append, crc8List_replicate_zero]
  · have hmatch : crc8Payload (frameOf 0 0 0 0 0) = (frameOf 0 0 0 0 0)[17] := by
      rw [crc8Payload_frameOf, frameChecksum_zero, getElem_frameOf_checksum]; rfl
    rw [zeroWindow_eq_frameOf]
    exact (validateAndDecode_of_match hmatch).trans (congrArg _ (decodeFields_frameOf 0 0 0 0 0))

end Sys2Proof.Machine

/-! PROOFS. The float decoder and emission family (42_float_decoder_emit.md): the little-endian
concatenation (R170), and the round trip of an encoded frame through the core (R178). -/

namespace Sys2Proof

/-! F32LE as a concatenation (R170). -/

/-- F32LE concatenates its bytes, the last one on top (R83, R170). -/
theorem f32le_eq_append (b0 b1 b2 b3 : Byte) : f32le b0 b1 b2 b3 = b3 ++ b2 ++ b1 ++ b0 := by
  refine BitVec.eq_of_getLsbD_eq fun j hj => ?_
  have hsecond : j - 8 < 8 ↔ j < 16 := by omega
  have hthird : j - 16 < 8 ↔ j < 24 := by omega
  simp only [f32le_getLsbD, BitVec.getLsbD_append, Nat.sub_sub, hsecond, hthird, hj, if_true]

/-- The unsigned value of a concatenation with a byte below. -/
theorem toNat_append_byte {n : Nat} (a : BitVec n) (b : Byte) :
    (a ++ b).toNat = b.toNat + 2 ^ 8 * a.toNat := by
  rw [BitVec.toNat_append, ← Nat.shiftLeft_add_eq_or_of_lt b.isLt, Nat.shiftLeft_eq]
  omega

end Sys2Proof

namespace Sys2Proof.Machine

/-- F32LE gives its pattern back (R170). -/
theorem exec_f32le (b0 b1 b2 b3 : Byte) (s : State) :
    exec (.f32le b0 b1 b2 b3) s = .next { s with ret := .word (f32le b0 b1 b2 b3) } := rfl

/-- Settles O23: F32LE is the concatenation, whose value adds one weighed byte after another, and
the four bytes of a pattern give the pattern back. -/
theorem f32leIsLittleEndian : Obligations.F32leIsLittleEndian := by
  refine ⟨fun b0 b1 b2 b3 s =>
    ⟨_, exec_f32le b0 b1 b2 b3 s, f32le_eq_append b0 b1 b2 b3, ?_⟩, fun w s =>
    ⟨byteOf w 0, byteOf w 1, byteOf w 2, byteOf w 3, ?_⟩⟩
  · rw [f32le_eq_append, toNat_append_byte, toNat_append_byte, toNat_append_byte]
    omega
  · rw [exec_f32le, f32le_byteOf]

/-! What a byte can change before the window closes (R112, R113). -/

/-- `t` is `s` with at most another buffer and another cursor. -/
def State.OnlyWindow (s t : State) : Prop := t = { s with buf := t.buf, cursor := t.cursor }

/-- Beside the end of the strobe, every byte but one that closes a window changes at most the buffer
and the cursor. -/
theorem State.onlyWindow_feed {s : State} (b : Byte) (hc : s.cursor ≠ 17) :
    s.beginStep.OnlyWindow (s.feed b) := by
  rcases s.feed_cases b with ⟨_, _, hf⟩ | ⟨_, _, hf⟩ | ⟨_, _, hf⟩ | ⟨hlast, _⟩
  · rw [hf]; rfl
  · rw [hf]; rfl
  · rw [hf]; rfl
  · exact absurd hlast hc

/-- Changes of the window one after another are one. -/
theorem State.OnlyWindow.trans {s t u : State} (hst : s.OnlyWindow t) (htu : t.OnlyWindow u) :
    s.OnlyWindow u :=
  Eq.trans htu (by rw [hst])

/-- In the middle of a frame no strobe or transient is left for the next step to end. -/
theorem State.OnlyWindow.beginStep_eq {s t : State} (h : s.beginStep.OnlyWindow t) :
    t.beginStep = t := by
  rw [h]; rfl

/-- The first 1 to 17 bytes of a frame, from SEARCH, change at most the buffer and the cursor. -/
theorem State.onlyWindow_frame_take {s : State} {f : Frame} (hc : s.cursor = 0)
    (h0 : f[0] = Config.syncByte) {n : Nat} (hn : n ≤ 16) :
    s.beginStep.OnlyWindow (s.feedAll (f.toList.take (n + 1))) := by
  induction n with
  | zero =>
    rw [Frame.toList_take_succ f (by omega), List.take_zero, List.nil_append]
    exact State.onlyWindow_feed f[0] (by simp [hc])
  | succ n ih =>
    obtain ⟨hw, -⟩ := State.run_frame_take hc h0 (show n ≤ 16 by omega)
    rw [State.run_fst] at hw
    rw [Frame.toList_take_succ f (by omega), State.feedAll_append]
    have hopen : (s.feedAll (f.toList.take (n + 1))).cursor ≠ 17 := fun hlast => by
      have hval := hw.cursor
      rw [hlast] at hval
      omega
    have hfeed := State.onlyWindow_feed f[n + 1] hopen
    rw [(ih (by omega)).beginStep_eq] at hfeed
    exact (ih (by omega)).trans hfeed

/-- What CLOSE does before it validates, on a window that is all that has changed (R114). -/
theorem State.OnlyWindow.closed_eq {s t : State} (h : s.OnlyWindow t) (b : Byte) :
    t.closed b = { s with buf := Memory.write t.buf 17 b, cursor := 0 } := by
  rw [State.closed_eq, h]

/-! A whole frame (R120, R178). -/

/-- The window of a frame with its last byte put in holds the frame. -/
theorem State.WindowOf.getElem_eq {s : State} {f : Frame} (hw : s.WindowOf f 17) (j : FrameIndex) :
    f[j] = if j = 17 then f[17] else s.readByte j := by
  split
  · next heq => subst heq; rfl
  · next hne =>
    have hlt : j.val < 17 := by have := Fin.val_ne_of_ne hne; omega
    exact (hw.bytes j hlt).symm

/-- The last byte of a frame closes its window and settles the frame itself (R114). -/
theorem State.WindowOf.feed_last {s : State} {f : Frame} (hw : s.WindowOf f 17) :
    s.feed f[17] = settleFrame (s.beginStep.closed f[17]) (validateAndDecode f) ∧
      ∀ j : FrameIndex, (s.feed f[17]).readByte j = f[j] := by
  have hframe : (s.beginStep.writeByte 17 f[17]).readFrame = f :=
    State.readFrame_writeByte_last hw.getElem_eq
  rw [State.feed_close (Fin.ext hw.cursor)]
  refine ⟨by rw [closeOp, hframe], fun j => ?_⟩
  rw [readByte_closeOp, State.readByte_beginStep, hw.getElem_eq j]

/-- A frame that begins with the sync byte, from SEARCH: the buffer holds it, the core is in SEARCH
again with nothing else touched, and the frame is settled by its verdict (R114, R120). -/
theorem State.feedAll_frame {s : State} {f : Frame} (hc : s.cursor = 0)
    (h0 : f[0] = Config.syncByte) :
    (∀ j : FrameIndex, (s.feedAll f.toList).readByte j = f[j]) ∧
      ∃ buf, s.feedAll f.toList =
        settleFrame { s.beginStep with buf := buf, cursor := 0 } (validateAndDecode f) := by
  have hsplit : f.toList = f.toList.take 17 ++ [f[17]] := by
    rw [← Frame.toList_take_succ f (by omega), List.take_of_length_le (by simp)]
  have hwindow := State.onlyWindow_frame_take hc h0 (Nat.le_refl 16)
  obtain ⟨hw, -⟩ := State.run_frame_take hc h0 (Nat.le_refl 16)
  rw [State.run_fst] at hw
  obtain ⟨hfeed, hread⟩ := hw.feed_last
  rw [hsplit, State.feedAll_append, State.feedAll_cons, State.feedAll_nil]
  rw [hwindow.beginStep_eq, hwindow.closed_eq] at hfeed
  exact ⟨hread, _, hfeed⟩

/-- The verdict on an encoded frame (R91, R144). -/
theorem validateAndDecode_encodeFrame (x y z st : Word32) :
    validateAndDecode (encodeFrame x y z st) = .ok ⟨x, y, z, st, Config.sourceTag⟩ := by
  rw [validateAndDecode_of_match (crc8Payload_encodeFrame x y z st), decodeFields_encodeFrame]

/-- FRAME is the repeated `Feed` of the encoded frame (R94). -/
theorem exec_frame (x y z st : Word32) (s : State) :
    exec (.frame x y z st) s = .next (s.feedAll (encodeFrame x y z st).toList) := rfl

/-- Settles O30: the bytes of an encoded frame settle that frame, and its verdict is the measurement
with the patterns encoded. -/
theorem frameRoundTrip : Obligations.FrameRoundTrip := by
  intro x y z st s hc
  obtain ⟨hread, buf, hstate⟩ := State.feedAll_frame (f := encodeFrame x y z st) hc rfl
  refine ⟨_, exec_frame x y z st s, hread, ?_⟩
  rw [hstate, validateAndDecode_encodeFrame]
  rfl

end Sys2Proof.Machine

/-! PROOFS. The encoding family (30_encoding.md): the operation map read both ways (R86), the frame
format (R80), the byte listings (R94), and the agreement of decoder and encoder. -/

namespace Sys2Proof

/-! The operation map (R86). -/

/-- The operations that R86 selects somewhere, each with its encoding condition. -/
theorem Instr.selectedAt_cases {i : Instr} {c : FrameIndex} (h : i.selectedAt c = true) :
    (∃ b, i = .drop b ∧ c = 0) ∨ (i = .sync ∧ c = 0) ∨
    (∃ b, i = .store b ∧ 1 ≤ c.val ∧ c.val ≤ 16) ∨ (∃ b, i = .close b ∧ c = 17) := by
  cases i with
  | drop b => exact .inl ⟨b, rfl, by simpa [Instr.selectedAt] using h⟩
  | sync => exact .inr (.inl ⟨rfl, by simpa [Instr.selectedAt] using h⟩)
  | store b => exact .inr (.inr (.inl ⟨b, rfl, by simpa [Instr.selectedAt] using h⟩))
  | close b => exact .inr (.inr (.inr ⟨b, rfl, by simpa [Instr.selectedAt] using h⟩))
  | _ => exact absurd h Bool.false_ne_true

/-- The operation map answers DROP in SEARCH, for all bytes but the sync byte. -/
theorem decodeByte_drop {b : Byte} (hb : b ≠ Config.syncByte) : decodeByte 0 b = .drop b := by
  simp [decodeByte, hb]

/-- The operation map answers SYNC in SEARCH, for the sync byte. -/
theorem decodeByte_sync : decodeByte 0 Config.syncByte = .sync := rfl

/-- The operation map answers STORE in ACCUM, before the last byte. -/
theorem decodeByte_store {c : FrameIndex} (b : Byte) (h1 : 1 ≤ c.val) (h2 : c.val ≤ 16) :
    decodeByte c b = .store b := by
  have h0 : c ≠ 0 := fun h => by simp [h] at h1
  simp [decodeByte, h0, h2]

/-- The operation map answers CLOSE in ACCUM, for the last byte. -/
theorem decodeByte_close (b : Byte) : decodeByte 17 b = .close b := rfl

/-- What the operation map selects is well formed, meets its encoding condition, and has the byte
for its encoding (R86, R88). -/
theorem decodeByte_spec (c : FrameIndex) (b : Byte) :
    (decodeByte c b).selectedAt c = true ∧ (decodeByte c b).wellFormed = true ∧
      encode (decodeByte c b) = some [b] := by
  rcases Machine.cursor_cases c with rfl | ⟨h1, h2⟩ | rfl
  · by_cases hb : b = Config.syncByte
    · subst hb
      exact ⟨rfl, rfl, rfl⟩
    · rw [decodeByte_drop hb]
      exact ⟨rfl, by simpa [Instr.wellFormed] using hb, rfl⟩
  · rw [decodeByte_store b h1 h2]
    exact ⟨by simp [Instr.selectedAt, h1, h2], rfl, rfl⟩
  · exact ⟨rfl, rfl, rfl⟩

/-- A well-formed operation under its encoding condition is selected by a byte that encodes it, on
its own and on the input ports. -/
theorem exists_byte_of_selectedAt {i : Instr} {c : FrameIndex} (hwf : i.wellFormed = true)
    (hsel : i.selectedAt c = true) :
    ∃ b, encode i = some [b] ∧ encodePorts i = some (.ofByte b) ∧ decodeByte c b = i := by
  rcases Instr.selectedAt_cases hsel with
    ⟨b, rfl, rfl⟩ | ⟨rfl, rfl⟩ | ⟨b, rfl, h1, h2⟩ | ⟨b, rfl, rfl⟩
  · exact ⟨b, rfl, rfl, decodeByte_drop (by simpa [Instr.wellFormed] using hwf)⟩
  · exact ⟨Config.syncByte, rfl, rfl, decodeByte_sync⟩
  · exact ⟨b, rfl, rfl, decodeByte_store b h1 h2⟩
  · exact ⟨b, rfl, rfl, decodeByte_close b⟩

/-- Settles O2: what the map selects meets the three conditions, and an operation that meets them is
selected by the byte that encodes it. -/
theorem byteMapIsExact : Obligations.ByteMapIsExact := by
  intro c b i
  refine ⟨?_, fun ⟨hsel, hwf, henc⟩ => ?_⟩
  · rintro rfl
    exact decodeByte_spec c b
  · obtain ⟨b', henc', -, hdec⟩ := exists_byte_of_selectedAt hwf hsel
    obtain rfl : b' = b := by simpa [henc] using henc'.symm
    exact hdec

/-- A sample that offers a byte selects what the byte does (R37). -/
theorem decodePorts_ofByte (c : FrameIndex) (b : Byte) :
    decodePorts c (.ofByte b) = some (decodeByte c b) := rfl

/-! The frame format (R80). -/

/-- The bytes of a value put together from four bytes (R83, R91). -/
theorem byteOf_f32le (b0 b1 b2 b3 : Byte) :
    byteOf (f32le b0 b1 b2 b3) 0 = b0 ∧ byteOf (f32le b0 b1 b2 b3) 1 = b1 ∧
    byteOf (f32le b0 b1 b2 b3) 2 = b2 ∧ byteOf (f32le b0 b1 b2 b3) 3 = b3 := by
  refine ⟨?_, ?_, ?_, ?_⟩ <;> refine BitVec.eq_of_getLsbD_eq fun j hj => ?_ <;>
    rw [byteOf_getLsbD, f32le_getLsbD]
  · simp [hj]
  · simp [hj, show 8 + j < 16 by omega]
  · simp [hj, show ¬16 + j < 8 by omega, show 16 + j < 24 by omega]
  · simp [hj, show ¬24 + j < 8 by omega, show ¬24 + j < 16 by omega, show 24 + j < 32 by omega]

/-- The bytes of the frame whose fields are put together from these bytes (R80, R91). -/
theorem toList_frameOf_f32le (b1 b2 b3 b4 b5 b6 b7 b8 b9 b10 b11 b12 b13 b14 b15 b16 b17 : Byte) :
    (frameOf (f32le b1 b2 b3 b4) (f32le b5 b6 b7 b8) (f32le b9 b10 b11 b12)
      (f32le b13 b14 b15 b16) b17).toList =
    [Config.syncByte, b1, b2, b3, b4, b5, b6, b7, b8, b9, b10, b11, b12, b13, b14, b15, b16,
      b17] := by
  simp only [frameOf, byteOf_f32le]
  rfl

/-- A listing of 18 bytes, written out. -/
theorem exists_bytes_of_length_eq {bs : List Byte} (h : bs.length = 18) :
    ∃ b0 b1 b2 b3 b4 b5 b6 b7 b8 b9 b10 b11 b12 b13 b14 b15 b16 b17,
      bs = [b0, b1, b2, b3, b4, b5, b6, b7, b8, b9, b10, b11, b12, b13, b14, b15, b16, b17] := by
  match bs, h with
  | [b0, b1, b2, b3, b4, b5, b6, b7, b8, b9, b10, b11, b12, b13, b14, b15, b16, b17], _ =>
    exact ⟨_, _, _, _, _, _, _, _, _, _, _, _, _, _, _, _, _, _, rfl⟩

/-- The frame decoder rejects a listing of another length (R80). -/
theorem decodeFrame_of_length_ne {bs : List Byte} (h : bs.length ≠ 18) :
    decodeFrame bs = .error .badLength := by
  unfold decodeFrame
  split
  · exact absurd rfl h
  · rfl

/-- The frame decoder rejects 18 bytes of which the first is not the sync byte (R80). -/
theorem decodeFrame_of_head_ne {bs : List Byte} (h : bs.length = 18)
    (h0 : bs.head? ≠ some Config.syncByte) : decodeFrame bs = .error .noSync := by
  obtain ⟨b0, b1, b2, b3, b4, b5, b6, b7, b8, b9, b10, b11, b12, b13, b14, b15, b16, b17, rfl⟩ :=
    exists_bytes_of_length_eq h
  exact if_neg fun heq => h0 (congrArg some heq)

/-- The frame decoder accepts 18 bytes of which the first is the sync byte, and loses no bit of
them (R80). -/
theorem decodeFrame_of_head_eq {bs : List Byte} (h : bs.length = 18)
    (h0 : bs.head? = some Config.syncByte) :
    ∃ x y z s k, decodeFrame bs = .ok (.frame18 x y z s k) ∧ (frameOf x y z s k).toList = bs := by
  obtain ⟨b0, b1, b2, b3, b4, b5, b6, b7, b8, b9, b10, b11, b12, b13, b14, b15, b16, b17, rfl⟩ :=
    exists_bytes_of_length_eq h
  obtain rfl : b0 = Config.syncByte := Option.some.inj h0
  exact ⟨_, _, _, _, _, rfl, toList_frameOf_f32le ..⟩

/-- Settles O4: the three cases of the frame decoder. -/
theorem frameFormatIsExact : Obligations.FrameFormatIsExact := by
  refine fun bs => ⟨decodeFrame_of_length_ne, decodeFrame_of_head_ne, fun hlen h0 => ?_⟩
  obtain ⟨x, y, z, s, k, hdec, hbytes⟩ := decodeFrame_of_head_eq hlen h0
  exact ⟨.frame18 x y z s k, hdec, rfl, congrArg some hbytes⟩

/-- The frame decoder reads back the fields of a frame of the format (R80, R83). -/
theorem decodeFrame_frameOf (x y z s : Word32) (k : Byte) :
    decodeFrame (frameOf x y z s k).toList = .ok (.frame18 x y z s k) := by
  simp [frameOf, decodeFrame]

/-! The byte listings of the pseudo-instructions (R94). -/

/-- A frame of the format abbreviates to FRAME or BADFRAME by its checksum byte (R94). -/
theorem decodeListing_frameOf (x y z s : Word32) (k : Byte) :
    decodeListing (frameOf x y z s k).toList =
      if k = frameChecksum x y z s then .ok (.frame x y z s) else .ok (.badframe x y z s k) := by
  rw [decodeListing, decodeFrame_frameOf]

/-- Bytes without the sync byte abbreviate to NOISE (R94): they are no frame, whatever their
number. -/
theorem decodeListing_noise {bytes : List Byte} (h : bytes.all (· != Config.syncByte) = true) :
    decodeListing bytes = .ok (.noise bytes) := by
  have hhead : bytes.head? ≠ some Config.syncByte := fun h0 => by
    simpa using List.all_eq_true.1 h _ (List.mem_of_head? h0)
  by_cases hlen : bytes.length = 18
  · rw [decodeListing, decodeFrame_of_head_ne hlen hhead]
    exact if_pos h
  · rw [decodeListing, decodeFrame_of_length_ne hlen]
    exact if_pos h

/-- Settles O3: the byte-step operations by the operation map, the frame format and the
pseudo-instructions by their listings. -/
theorem decodeEncodeAgree : Obligations.DecodeEncodeAgree := by
  refine ⟨fun i c hwf hsel => ?_, fun c => ⟨_, rfl, rfl⟩, fun x y z s k => ?_, fun x y z s => ?_,
    fun x y z s k hk => ?_, fun bytes hb => ?_⟩
  · obtain ⟨b, henc, hports, hdec⟩ := exists_byte_of_selectedAt hwf hsel
    exact ⟨⟨b, henc, hdec⟩, _, hports, by rw [decodePorts_ofByte, hdec]⟩
  · exact ⟨_, rfl, decodeFrame_frameOf x y z s k⟩
  · exact ⟨_, rfl, (decodeListing_frameOf x y z s _).trans (if_pos rfl)⟩
  · have hne : k ≠ frameChecksum x y z s := by simpa [Instr.wellFormed] using hk
    exact ⟨_, rfl, (decodeListing_frameOf x y z s k).trans (if_neg hne)⟩
  · exact ⟨bytes, rfl, decodeListing_noise hb⟩

/-! Words written out (R86, R80, R91, R94). -/

/-- The checksum of the frame of R94's example. -/
theorem frameChecksum_example :
    frameChecksum 0x3F800000#32 0x40000000#32 0x40400000#32 0x3F800000#32 = 0xD5#8 := by
  decide +kernel

/-- Settles O1: the single bytes by evaluation, the listings of R94's example by the decoder's law
for frames of the format. -/
theorem writtenWordsDecode : Obligations.WrittenWordsDecode := by
  have hchecksum := frameChecksum_example
  refine ⟨rfl, rfl, rfl, rfl, rfl,
    decodeFrame_frameOf 0xBFC00000#32 0x3E800000#32 0x42C80000#32 0x3DCCCCCD#32 0x1D#8,
    (decodeListing_frameOf 0x3F800000#32 0x40000000#32 0x40400000#32 0x3F800000#32 0xD5#8).trans
      (if_pos hchecksum.symm),
    (decodeListing_frameOf 0x3F800000#32 0x40000000#32 0x40400000#32 0x3F800000#32 0xD4#8).trans
      (if_neg ?_)⟩
  rw [hchecksum]
  decide

end Sys2Proof

/-! PROOFS. The step on the input ports (00_scope.md R6, 10_state.md R36 to R39), the emissions and
the cache (40_frame_assembler.md R118), and the operations of reset and emission on their own. -/

namespace Sys2Proof.Machine

/-! The two equations of a step (R37). -/

/-- A step runs the instruction its sample selects. -/
theorem step_of_some {s : State} {i : Instr} (h : s.nextInstr = some i) :
    step s = exec i s.advance := by
  simp only [step, h]

/-- A step that selects no instruction only takes its sample. -/
theorem step_of_none {s : State} (h : s.nextInstr = none) : step s = .next s.advance := by
  simp only [step, h]

/-- The sample taken, with the other fields written out (R59, R38, R34). -/
theorem State.advance_eq {s : State} {p : PortSample} {rest : List PortSample}
    (h : s.input = p :: rest) :
    s.advance = { s with meas := none, ret := .none, input := rest } := by
  rw [State.advance, h]
  rfl

/-- A sample with `rst = 1` selects RESET (R230, R206). -/
theorem State.nextInstr_of_rst {s : State} {p : PortSample} {rest : List PortSample}
    (h : s.input = p :: rest) (hrst : p.rst = true) : s.nextInstr = some .reset := by
  rw [State.nextInstr_cons h, decodePorts, if_pos hrst]

/-- What the ports select is well formed (R86, R88, R206). -/
theorem wellFormed_of_decodePorts {c : FrameIndex} {p : PortSample} {i : Instr}
    (h : decodePorts c p = some i) : i.wellFormed = true := by
  rcases decodePorts_cases c p with ⟨-, hd⟩ | ⟨-, -, hd⟩ | ⟨-, -, hd⟩ <;> rw [hd] at h
  · obtain rfl := Option.some.inj h
    rfl
  · obtain rfl := Option.some.inj h
    obtain ⟨-, hwf, -⟩ := decodeByte_spec c p.inData
    exact hwf
  · cases h

/-- Settles O5: the two equations of a step, and what the ports select is well formed. -/
theorem stepRunsDecoded : Obligations.StepRunsDecoded := by
  refine ⟨fun s p rest hin => ⟨fun i hd => ⟨wellFormed_of_decodePorts hd, ?_⟩, fun hd => ?_⟩,
    fun s hin => ?_⟩
  · rw [← State.advance_eq hin]
    exact step_of_some ((State.nextInstr_cons hin).trans hd)
  · rw [← State.advance_eq hin]
    exact step_of_none ((State.nextInstr_cons hin).trans hd)
  · have hadvance : s.advance = { s with meas := none, ret := .none } := by
      simp [State.advance, State.beginStep, hin]
    rw [step_of_none (State.nextInstr_nil hin), hadvance]

/-- Settles O49: an idle sample selects nothing. -/
theorem idleStepKeepsTheCore : Obligations.IdleStepKeepsTheCore := by
  intro s b rest hin
  rw [step_of_none (State.nextInstr_cons hin), State.advance_eq hin]

/-- A step on an offered byte is `Feed` of it after the sample was taken (R110). -/
theorem step_of_ofByte {s : State} {b : Byte} {rest : List PortSample}
    (h : s.input = PortSample.ofByte b :: rest) : step s = .next (s.advance.feed b) := by
  rw [step_of_some ((State.nextInstr_cons h).trans (decodePorts_ofByte s.cursor b))]
  exact exec_decodeByte s.advance b

/-- `Feed` begins its step itself, so that a sample taken before it shows in the input alone. -/
theorem State.feed_advance {s : State} {p : PortSample} {rest : List PortSample}
    (h : s.input = p :: rest) (b : Byte) :
    s.advance.feed b = { s.feed b with input := rest } := by
  rw [State.advance_eq h, ← s.feed_withInput b rest]
  rfl

/-- Settles O13: the sample selects what R86 selects for its byte, which is `Feed`. -/
theorem stepOnAByteIsFeed : Obligations.StepOnAByteIsFeed := by
  intro s b rest hin
  rw [step_of_ofByte hin, State.feed_advance hin]

/-- Settles O28: with `rst = 1` the ports select RESET before they look at the byte. -/
theorem resetWinsOverByte : Obligations.ResetWinsOverByte := by
  intro s rest
  exact ⟨State.applyReset { s with input := rest }, rfl, rfl, rfl, rfl, rfl, fun _ _ => rfl⟩

/-! Operations executed on their own. -/

/-- Settles O7: no arm of a byte-step operation is taken where its encoding condition or its operand
check fails. -/
theorem unselectedByteStepRefused : Obligations.UnselectedByteStepRefused := by
  rintro i s ⟨b, -, c, hsel⟩ h
  rcases Instr.selectedAt_cases hsel with ⟨b', rfl, -⟩ | ⟨rfl, -⟩ | ⟨b', rfl, -⟩ | ⟨b', rfl, -⟩
  · refine if_neg fun ⟨hc, hb⟩ => ?_
    simp [Instr.selectedAt, Instr.wellFormed, hc, hb] at h
  · refine if_neg fun hc => ?_
    simp [Instr.selectedAt, Instr.wellFormed, hc] at h
  · refine if_neg fun ⟨h1, h2⟩ => ?_
    simp [Instr.selectedAt, Instr.wellFormed, h1, h2] at h
  · refine if_neg fun hc => ?_
    simp [Instr.selectedAt, Instr.wellFormed, hc] at h

/-- Settles O25: EMIT is the emission alone. -/
theorem emitAppendsOneMeasurement : Obligations.EmitAppendsOneMeasurement := fun _ _ => rfl

/-- Settles O26: CACHE_UPDATE is the four writes alone. -/
theorem cacheUpdateWritesThePose : Obligations.CacheUpdateWritesThePose := fun _ _ => rfl

/-- Settles O27, by the fields of RESET. -/
theorem resetClearsCursorAndFlag : Obligations.ResetClearsCursorAndFlag := fun s =>
  ⟨s.applyReset, rfl, s.applyReset_cursor, s.applyReset_poseValid, s.applyReset_emitted,
    s.applyReset_meas, s.applyReset_input⟩

/-- Settles O29, by the fields of the reset state. -/
theorem resetStateValues : Obligations.ResetStateValues := ⟨rfl, rfl, rfl, rfl, rfl, rfl⟩

/-- Settles O43: at reset there is no window, no emission, no valid cache and no strobe. -/
theorem invariantHoldsAtReset : Obligations.InvariantHoldsAtReset where
  bufWf := Memory.wf_reset
  syncHeld hc := absurd rfl hc
  windowWritten _ hi := absurd hi (Nat.not_lt_zero _)
  tagged := by simp [State.reset]
  poseLatest := by simp [State.reset]
  strobeLatest := by simp [State.reset]

/-! A pseudo-instruction is its bytes (R94). -/

/-- An operation with a byte encoding that is no byte-step operation is the repeated `Feed` of its
bytes (R94, R80). -/
theorem exec_of_encode {i : Instr} {bytes : List Byte} (henc : encode i = some bytes)
    (hsel : ∀ c, i.selectedAt c = false) (s : State) : exec i s = .next (s.feedAll bytes) := by
  cases i with
  | drop | sync => exact absurd (hsel 0) (by simp [Instr.selectedAt])
  | store => exact absurd (hsel 1) (by simp [Instr.selectedAt])
  | close => exact absurd (hsel 17) (by simp [Instr.selectedAt])
  | frame | badframe | noise | frame18 =>
    obtain rfl := Option.some.inj henc
    rfl
  | _ => cases henc

/-- The steps on bytes that arrive on the input ports are the repeated `Feed` (R37, R8). -/
theorem run_bytesOffered (bytes : List Byte) (rest : List PortSample) (s : State) :
    Host.Core.run core bytes.length { s with input := bytesOffered bytes ++ rest } =
      .next { s.feedAll bytes with input := rest } := by
  induction bytes generalizing s with
  | nil => rfl
  | cons b bytes ih =>
    have hstep : step { s with input := bytesOffered (b :: bytes) ++ rest } =
        .next { s.feed b with input := bytesOffered bytes ++ rest } := by
      rw [stepOnAByteIsFeed _ b (bytesOffered bytes ++ rest) rfl, State.feed_withInput]
    exact (run_succ_of_step (M := core) (s := { s with input := bytesOffered (b :: bytes) ++ rest })
      bytes.length hstep).trans (ih (s.feed b))

/-- Settles O34: both sides are the repeated `Feed` of the bytes. -/
theorem pseudoInstructionIsItsBytes : Obligations.PseudoInstructionIsItsBytes :=
  fun _ bytes henc hsel s rest =>
    ⟨s.feedAll bytes, exec_of_encode henc hsel s, run_bytesOffered bytes rest s⟩

/-! Emission and cache (R118). -/

/-- CLOSE from the beginning of a step emits and caches one measurement, or does neither (R177). -/
theorem closeOp_emission (b : Byte) {s : State} (hm : s.meas = none) :
    ((closeOp b s).emitted = s.emitted ∧ (closeOp b s).pose = s.pose ∧
      (closeOp b s).meas = none ∧ crc8Payload (s.writeByte 17 b).readFrame ≠ b) ∨
    (crc8Payload (s.writeByte 17 b).readFrame = b ∧
      ∃ m, (closeOp b s).emitted = s.emitted ++ [m] ∧ (closeOp b s).meas = some m ∧
        (closeOp b s).pose = .ofMeasurement m) := by
  rcases closeOp_cases b s with ⟨hcrc, h⟩ | ⟨hcrc, h⟩ <;> rw [h]
  · exact .inr ⟨hcrc, _, rfl, rfl, rfl⟩
  · exact .inl ⟨rfl, rfl, hm, hcrc⟩

/-- The label EMIT is the CRC's verdict on the window that the byte closes. -/
theorem State.label_eq_emit_iff {s : State} {b : Byte} (hc : s.cursor = 17) :
    s.label b = .emit ↔ crc8Payload (s.beginStep.writeByte 17 b).readFrame = b := by
  have hlabel : s.label b =
      if crc8Payload (s.beginStep.writeByte 17 b).readFrame = b then .emit else .reject :=
    State.label_close hc
  rw [hlabel]
  split <;> simp [*]

/-- What a byte does to the emissions and the cache (R118 (c), (d)): both stay, or the byte closes a
window with a matching CRC and one measurement goes into both. -/
theorem State.feed_emission (s : State) (b : Byte) :
    (s.label b ≠ .emit ∧ (s.feed b).emitted = s.emitted ∧ (s.feed b).pose = s.pose ∧
      (s.feed b).meas = none) ∨
    (s.cursor = 17 ∧ (s.feed b).cursor = 0 ∧ s.label b = .emit ∧
      ∃ m, (s.feed b).emitted = s.emitted ++ [m] ∧ (s.feed b).meas = some m ∧
        (s.feed b).pose = .ofMeasurement m) := by
  rcases s.feed_cases b with ⟨hc, hb, hf⟩ | ⟨hc, rfl, hf⟩ | ⟨h1, h2, hf⟩ | ⟨hc, hf⟩ <;> rw [hf]
  · exact .inl ⟨by simp [State.label_drop hc hb], rfl, rfl, rfl⟩
  · exact .inl ⟨by simp [State.label_sync hc], rfl, rfl, rfl⟩
  · exact .inl ⟨by simp [State.label_store h1 h2], rfl, rfl, rfl⟩
  · obtain ⟨-, hcur, -⟩ := closeOp_frame b s.beginStep
    rcases closeOp_emission b s.beginStep_meas with ⟨hem, hpose, hmeas, hcrc⟩ | ⟨hcrc, hem⟩
    · exact .inl ⟨mt (State.label_eq_emit_iff hc).1 hcrc, hem, hpose, hmeas⟩
    · exact .inr ⟨hc, hcur, (State.label_eq_emit_iff hc).2 hcrc, hem⟩

/-- A sample that offers a byte and does not reset is the sample of that byte (R37). -/
theorem PortSample.eq_ofByte {p : PortSample} (hrst : p.rst = false) (hval : p.inValid = true) :
    p = .ofByte p.inData := by
  rw [PortSample.ofByte, ← hrst, ← hval]

/-- Settles O40: waiting and RESET emit nothing, and `Feed` emits and caches together. -/
theorem emissionAndCacheGoTogether : Obligations.EmissionAndCacheGoTogether := by
  intro s t hstep
  rcases step_cases hstep with
    ⟨-, rfl⟩ | ⟨p, rest, hin, hrst, rfl⟩ | ⟨p, rest, hin, hrst, hval, rfl⟩
  · exact .inl ⟨rfl, rfl, rfl⟩
  · exact .inr (.inl ⟨State.nextInstr_of_rst hin hrst, rfl, rfl⟩)
  · rcases s.advance.feed_emission p.inData with ⟨-, h⟩ | ⟨hc, hcur, hlabel, hm⟩
    · exact .inl h
    · rw [PortSample.eq_ofByte hrst hval] at hin
      exact .inr (.inr ⟨hc, hcur, ⟨p.inData, rest, hin, hlabel⟩, hm⟩)

/-- No byte clears `pose_valid` (R29). -/
theorem State.feed_poseValid {s : State} (b : Byte) (h : s.poseValid = true) :
    (s.feed b).poseValid = true := by
  rcases s.feed_emission b with ⟨-, -, hpose, -⟩ | ⟨-, -, -, m, -, -, hpose⟩
  · exact (congrArg Pose.valid hpose).trans h
  · exact congrArg Pose.valid hpose

/-- Settles O41: of the cases of a step only RESET leaves `pose_valid = 0` after 1. -/
theorem onlyResetClearsPoseValid : Obligations.OnlyResetClearsPoseValid := by
  intro s t hstep hs ht
  rcases step_cases hstep with ⟨-, rfl⟩ | ⟨p, rest, hin, hrst, rfl⟩ | ⟨p, _, -, -, -, rfl⟩
  · exact absurd (hs.symm.trans ht) Bool.noConfusion
  · exact ⟨p, rest, hin, hrst⟩
  · have hkept := State.feed_poseValid (s := s.advance) p.inData hs
    exact absurd (hkept.symm.trans ht) Bool.noConfusion

/-- What a step appends to the emitted list is what the measurement ports show after it (R38). -/
theorem step_emitted {s t : State} (h : step s = .next t) :
    t.emitted = s.emitted ++ t.meas.toList := by
  rcases step_cases h with ⟨-, rfl⟩ | ⟨_, _, -, -, rfl⟩ | ⟨p, _, -, -, -, rfl⟩
  · simp
  · simp
  · exact s.advance.feed_emitted p.inData

/-- Settles O42: the ports show `meas` and the cache, and `meas` is what the step has appended. -/
theorem portsShowTheStep : Obligations.PortsShowTheStep := by
  intro s t hstep
  have hem := step_emitted hstep
  refine ⟨fun m => ?_, ?_, rfl, rfl, rfl, rfl⟩
  · rw [hem, List.append_cancel_left_eq]
    exact Option.toList_eq_singleton_iff.symm
  · rw [hem]
    cases hm : t.meas <;> simp [State.measValid, State.portsOut, hm]

/-! The core never reads the cache (R28). -/

/-- CLOSE with another cache: the cache afterwards is the one written where the CRC matches, and the
other one where it does not. -/
theorem closeOp_withPose (b : Byte) (s : State) (p : Pose) :
    closeOp b (s.withPose p) = (closeOp b s).withPose
      (if crc8Payload (s.writeByte 17 b).readFrame = b then (closeOp b s).pose else p) := by
  have hframe : ((s.withPose p).writeByte 17 b).readFrame = (s.writeByte 17 b).readFrame := rfl
  have hp := closeOp_cases b (s.withPose p)
  rw [hframe] at hp
  rcases hp with ⟨hcrc, hp⟩ | ⟨hcrc, hp⟩ <;>
    rcases closeOp_cases b s with ⟨hcrc', h⟩ | ⟨hcrc', h⟩
  · rw [hp, h, if_pos hcrc]; rfl
  · exact absurd hcrc hcrc'
  · exact absurd hcrc' hcrc
  · rw [hp, h, if_neg hcrc]; rfl

/-- Another cache before a byte is another cache after it, unless the byte emits: then the cache is
written afresh (R28, R176). -/
theorem State.feed_withPose (s : State) (b : Byte) (p : Pose) :
    (s.withPose p).feed b =
      (s.feed b).withPose (if s.label b = .emit then (s.feed b).pose else p) := by
  rcases s.feed_cases b with ⟨hc, hb, hf⟩ | ⟨hc, rfl, hf⟩ | ⟨h1, h2, hf⟩ | ⟨hc, hf⟩ <;> rw [hf]
  · rw [State.feed_drop (s := s.withPose p) hc hb, State.label_drop hc hb]; rfl
  · rw [State.feed_sync (s := s.withPose p) hc, State.label_sync hc]; rfl
  · rw [State.feed_store (s := s.withPose p) h1 h2, State.label_store h1 h2]; rfl
  · rw [State.feed_close (s := s.withPose p) hc]
    simp only [State.label_eq_emit_iff hc]
    exact closeOp_withPose b s.beginStep p

/-- Settles O46: waiting keeps the other cache, RESET draws a fresh one, and `Feed` keeps it or,
where it emits, writes it afresh. -/
theorem cacheIsNeverRead : Obligations.CacheIsNeverRead := by
  intro s t p hstep
  rcases step_cases hstep with
    ⟨hnone, rfl⟩ | ⟨r, rest, hin, hrst, rfl⟩ | ⟨r, rest, hin, hrst, hval, rfl⟩
  · exact ⟨p, step_of_none (s := s.withPose p) hnone, absurd rfl, fun _ _ => rfl⟩
  · have hnext := State.nextInstr_of_rst hin hrst
    exact ⟨s.advance.applyReset.pose, step_of_some (s := s.withPose p) hnext, absurd rfl,
      fun _ hne => absurd hnext hne⟩
  · rw [PortSample.eq_ofByte hrst hval] at hin
    refine ⟨_, (step_of_ofByte (s := s.withPose p) hin).trans
      (congrArg _ (s.advance.feed_withPose r.inData p)), ?_⟩
    rcases s.advance.feed_emission r.inData with
      ⟨hlabel, hem, -⟩ | ⟨-, -, hlabel, m, hem, -⟩
    · exact ⟨absurd hem, fun _ _ => if_neg hlabel⟩
    · exact ⟨fun _ => if_pos hlabel, fun heq => absurd (hem.symm.trans heq) (by simp)⟩

/-! The canonical form of the buffer (20_memory.md R50, R56). -/

/-- What a guarded arm answers when it is not refused. -/
theorem eq_of_ite_eq_next {c : Prop} [Decidable c] {r : Refusal} {a t : State}
    (h : (if c then .next a else .refused r : Host.Outcome State Fault Refusal) = .next t) :
    t = a := by
  split at h
  · exact (Host.Outcome.next.inj h).symm
  · cases h

/-- `Feed` keeps the canonical form (R56). -/
theorem State.wf_feed {s : State} (b : Byte) (h : Memory.wf s.buf) : Memory.wf (s.feed b).buf := by
  rcases s.feed_cases b with ⟨-, -, hf⟩ | ⟨-, -, hf⟩ | ⟨-, -, hf⟩ | ⟨-, hf⟩ <;> rw [hf]
  · exact h
  · exact s.wf_writeByte 0 Config.syncByte h
  · exact s.wf_writeByte s.cursor b h
  · obtain ⟨hbuf, -⟩ := closeOp_frame b s.beginStep
    rw [hbuf]
    exact s.wf_writeByte 17 b h

/-- A run keeps the canonical form. -/
theorem State.wf_feedAll {s : State} (bytes : List Byte) (h : Memory.wf s.buf) :
    Memory.wf (s.feedAll bytes).buf := by
  induction bytes generalizing s with
  | nil => exact h
  | cons b bytes ih => exact ih (State.wf_feed b h)

/-- What an instruction executed on its own can do to the buffer. -/
theorem exec_buf_cases {i : Instr} {s t : State} (h : exec i s = .next t) :
    t.buf = s.buf ∨ (∃ (j : FrameIndex) (b : Byte), t.buf = Memory.write s.buf j.val b) ∨
      t.buf = [] ∨ ∃ bytes, t = s.feedAll bytes := by
  cases i with
  | drop =>
    rw [eq_of_ite_eq_next h]
    exact .inl rfl
  | sync =>
    rw [eq_of_ite_eq_next h]
    exact .inr (.inl ⟨0, Config.syncByte, rfl⟩)
  | store b =>
    rw [eq_of_ite_eq_next h]
    exact .inr (.inl ⟨s.cursor, b, rfl⟩)
  | close b =>
    obtain ⟨hbuf, -⟩ := closeOp_frame b s
    rw [eq_of_ite_eq_next h]
    exact .inr (.inl ⟨17, b, hbuf⟩)
  | reset =>
    obtain rfl := Host.Outcome.next.inj h
    exact .inr (.inr (.inl rfl))
  | frame | badframe | noise | frame18 =>
    obtain rfl := Host.Outcome.next.inj h
    exact .inr (.inr (.inr ⟨_, rfl⟩))
  | _ =>
    obtain rfl := Host.Outcome.next.inj h
    exact .inl rfl

/-- Settles O45: one store, the empty buffer and a run all keep the canonical form. -/
theorem execKeepsMemoryCanonical : Obligations.ExecKeepsMemoryCanonical := by
  intro i s t hwf hexec
  rcases exec_buf_cases hexec with hbuf | ⟨j, b, hbuf⟩ | hbuf | ⟨bytes, rfl⟩
  · rwa [hbuf]
  · rw [hbuf]
    exact s.wf_writeByte j b hwf
  · rw [hbuf]
    exact Memory.wf_nil
  · exact State.wf_feedAll bytes hwf

end Sys2Proof.Machine

/-! PROOFS. The window in progress (40_frame_assembler.md R115 to R122, 10_state.md R24, R35): where
`Feed` takes the cursor, how a frame settles, which bytes are read, and the running CRC. -/

namespace Sys2Proof.Machine

/-! Where a byte takes the cursor (R115). -/

/-- In ACCUM before the last byte the window grows by one, and nothing is emitted. -/
theorem State.feed_accum {s : State} (b : Byte) (h1 : 1 ≤ s.cursor.val) (h2 : s.cursor.val ≤ 16) :
    (s.feed b).cursor.val = s.cursor.val + 1 ∧ (s.feed b).meas = none := by
  rw [State.feed_store h1 h2]
  exact ⟨cursor_succ_val h2, rfl⟩

/-- The last byte of a window ends it, whatever the verdict (R114, C2). -/
theorem State.feed_close_cursor {s : State} (b : Byte) (hc : s.cursor = 17) :
    (s.feed b).cursor = 0 := by
  obtain ⟨-, hcur, -⟩ := closeOp_frame b s.beginStep
  rwa [State.feed_close hc]

/-- The label of the last byte of a window that is not emitted. -/
theorem State.label_eq_reject {s : State} {b : Byte} (hc : s.cursor = 17) (h : s.label b ≠ .emit) :
    s.label b = .reject := by
  rw [State.label_close hc] at h ⊢
  exact if_neg fun hcrc => h (if_pos hcrc)

/-- Settles O12: the cursor by the cases of `Feed`, the emission by the label. -/
theorem feedFollowsTransitionTable : Obligations.FeedFollowsTransitionTable := by
  intro s b
  refine ⟨fun hc hb => ?_, fun hc hb => ?_, fun h1 h2 => ?_, fun hc hlabel => ?_,
    fun hc hlabel => ?_⟩
  · rw [State.feed_drop hc hb]
    exact ⟨hc, rfl⟩
  · rw [show b = Config.syncByte from hb, State.feed_sync hc]
    exact ⟨rfl, rfl⟩
  · rw [State.feed_store h1 h2]
    exact ⟨cursor_succ_val h2, rfl⟩
  · rcases s.feed_emission b with ⟨hne, -⟩ | ⟨-, hcur, -, m, hem, hmeas, -⟩
    · exact absurd hlabel hne
    · exact ⟨hcur, m, hem, hmeas⟩
  · rcases s.feed_emission b with ⟨-, hem, hpose, -⟩ | ⟨-, -, heq, -⟩
    · exact ⟨State.label_eq_reject hc hlabel, State.feed_close_cursor b hc, hem, hpose⟩
    · exact absurd heq hlabel

/-! A frame of the format met in SEARCH (R120). -/

/-- After `n` bytes of a frame that begins with the sync byte the cursor is `n`, and nothing is
emitted yet. -/
theorem State.feedAll_frame_take {s : State} {f : Frame} (hc : s.cursor = 0)
    (h0 : f[0] = Config.syncByte) {n : Nat} (hn : n ≤ 17) :
    (s.feedAll (f.toList.take n)).cursor.val = n ∧
      (s.feedAll (f.toList.take n)).emitted = s.emitted := by
  cases n with
  | zero => exact ⟨Fin.val_eq_of_eq hc, rfl⟩
  | succ n =>
    obtain ⟨hw, hnone⟩ := State.run_frame_take hc h0 (Nat.le_of_succ_le_succ hn)
    rw [State.run_fst] at hw
    exact ⟨hw.cursor, by rw [State.feedAll_emitted, hnone, List.append_nil]⟩

/-- FRAME18 is the repeated `Feed` of its bytes (R80, R94). -/
theorem exec_frame18 (x y z st : Word32) (k : Byte) (s : State) :
    exec (.frame18 x y z st k) s = .next (s.feedAll (frameOf x y z st k).toList) := rfl

/-- BADFRAME is the repeated `Feed` of its bytes (R94). -/
theorem exec_badframe (x y z st : Word32) (k : Byte) (s : State) :
    exec (.badframe x y z st k) s = .next (s.feedAll (frameOf x y z st k).toList) := rfl

/-- A frame of the format whose checksum byte is the CRC of its payload, from SEARCH: its fields are
emitted and cached (R114, R177). -/
theorem State.feedAll_frameOf_of_match {x y z st : Word32} {k : Byte} {s : State}
    (hc : s.cursor = 0) (hk : k = crc8Payload (frameOf x y z st k)) :
    s.feedAll (frameOf x y z st k).toList =
      { s with buf := (s.feedAll (frameOf x y z st k).toList).buf, cursor := 0,
               lastX := x, lastY := y, lastZ := z, poseValid := true, ret := .none,
               meas := some ⟨x, y, z, st, Config.sourceTag⟩,
               emitted := s.emitted ++ [⟨x, y, z, st, Config.sourceTag⟩] } := by
  obtain ⟨-, buf, hstate⟩ := State.feedAll_frame (f := frameOf x y z st k) hc rfl
  rw [hstate, validateAndDecode_of_match hk.symm, decodeFields_frameOf]
  rfl

/-- A frame of the format with another checksum byte, from SEARCH: nothing but the buffer is
touched (R114, R145). -/
theorem State.feedAll_frameOf_of_mismatch {x y z st : Word32} {k : Byte} {s : State}
    (hc : s.cursor = 0) (hk : k ≠ crc8Payload (frameOf x y z st k)) :
    s.feedAll (frameOf x y z st k).toList =
      { s with buf := (s.feedAll (frameOf x y z st k).toList).buf, cursor := 0,
               meas := none, ret := .none } := by
  obtain ⟨-, buf, hstate⟩ := State.feedAll_frame (f := frameOf x y z st k) hc rfl
  rw [hstate, validateAndDecode_of_mismatch hk.symm]
  rfl

/-- Settles O32: the window while it fills, the buffer once it is full, and the two verdicts. -/
theorem alignedFrameSettles : Obligations.AlignedFrameSettles := by
  intro x y z st k s hc
  obtain ⟨hread, -⟩ := State.feedAll_frame (f := frameOf x y z st k) hc rfl
  exact ⟨fun n hn => State.feedAll_frame_take (f := frameOf x y z st k) hc rfl hn,
    _, exec_frame18 x y z st k s, hread, State.feedAll_frameOf_of_match hc,
    State.feedAll_frameOf_of_mismatch hc⟩

/-- Settles O31: what R94 asks of the byte `k` is that the checksum does not match. -/
theorem badframeIsRejected : Obligations.BadframeIsRejected := by
  intro x y z st k s hc hwf
  obtain ⟨hread, -⟩ := State.feedAll_frame (f := frameOf x y z st k) hc rfl
  have hk : k ≠ crc8Payload (frameOf x y z st k) := by
    simpa [Instr.wellFormed, crc8Payload_frameOf] using hwf
  exact ⟨_, exec_badframe x y z st k s, hread, State.feedAll_frameOf_of_mismatch hc hk⟩

/-- Settles O39: the false window ends in SEARCH without an emission, and the segment after it is
noise and a frame as any other (C3). -/
theorem recoversAfterFalseWindow : Obligations.RecoversAfterFalseWindow := by
  intro f g s hc h0 hcrc hb
  obtain ⟨hcur, hnone⟩ := State.run_frame hc h0
  rw [if_neg hcrc] at hnone
  obtain ⟨-, hsegment, -⟩ := State.run_segment hcur hb
  rw [State.run_append, hnone, hsegment, List.nil_append]

/-! Windows of any bytes (R118, R122). -/

/-- In ACCUM, bytes that do not reach the end of the window are absorbed one by one, whatever they
are. -/
theorem State.run_accum {bytes : List Byte} {s : State} (h1 : 1 ≤ s.cursor.val)
    (h2 : s.cursor.val + bytes.length ≤ 17) :
    (s.feedAll bytes).cursor.val = s.cursor.val + bytes.length ∧ (s.run bytes).2 = [] := by
  induction bytes generalizing s with
  | nil => exact ⟨rfl, rfl⟩
  | cons b bytes ih =>
    rw [List.length_cons] at h2 ⊢
    obtain ⟨hcur, hm⟩ := State.feed_accum b h1 (show s.cursor.val ≤ 16 by omega)
    obtain ⟨hend, hnone⟩ := ih (s := s.feed b) (by omega) (by omega)
    rw [State.feedAll_cons, State.run_cons, hm, hnone, hend]
    exact ⟨by omega, rfl⟩

/-- The sync byte and up to 16 bytes after it leave the core in the middle of the window. -/
theorem State.run_sync {bytes : List Byte} {s : State} (hc : s.cursor = 0)
    (hlen : bytes.length ≤ 16) :
    (s.feedAll (Config.syncByte :: bytes)).cursor.val = bytes.length + 1 ∧
      (s.run (Config.syncByte :: bytes)).2 = [] := by
  rw [State.feedAll_cons, State.run_cons, State.feed_sync hc]
  have hone : (syncOp s.beginStep).cursor.val = 1 := rfl
  obtain ⟨hcur, hnone⟩ :=
    State.run_accum (bytes := bytes) (s := syncOp s.beginStep) (by omega) (by omega)
  exact ⟨by omega, hnone⟩

/-- One byte pays for the room it takes in the window: an emission comes with the window of 18 bytes
given up. -/
theorem State.feed_budget (s : State) (b : Byte) :
    18 * (s.feed b).meas.toList.length + (s.feed b).cursor.val ≤ s.cursor.val + 1 := by
  rcases s.feed_cases b with ⟨hc, -, hf⟩ | ⟨-, -, hf⟩ | ⟨h1, h2, -⟩ | ⟨hc, -⟩
  · simp [hf, hc]
  · simp [hf, syncOp]
  · obtain ⟨hcur, hm⟩ := State.feed_accum b h1 h2
    simp [hcur, hm]
  · have hone : (s.feed b).meas.toList.length ≤ 1 := Option.length_toList_le
    rw [State.feed_close_cursor b hc, hc]
    omega

/-- Over a run the emissions and the window in progress take no more bytes than there were. -/
theorem State.run_budget (s : State) (bytes : List Byte) :
    18 * (s.run bytes).2.length + (s.feedAll bytes).cursor.val ≤ s.cursor.val + bytes.length := by
  induction bytes generalizing s with
  | nil => simp
  | cons b bytes ih =>
    have hfirst := s.feed_budget b
    have hrest := ih (s.feed b)
    rw [State.run_cons, State.feedAll_cons, List.length_append, List.length_cons]
    omega

/-- Settles O36: 16 bytes after the sync byte leave the cursor at 17, where one more ends the
window; 18 bytes from SEARCH pay for one emission. -/
theorem windowAbsorbsSeventeenBytes : Obligations.WindowAbsorbsSeventeenBytes := by
  refine fun bytes s hc => ⟨State.run_sync hc, fun hlen => ⟨?_, ?_⟩⟩
  · obtain rfl | ⟨init, last, rfl⟩ := List.eq_nil_or_concat' bytes
    · cases hlen
    rw [List.length_append, List.length_singleton] at hlen
    obtain ⟨hcur, -⟩ := State.run_sync (bytes := init) hc (by omega)
    have hlast : (s.feedAll (Config.syncByte :: init)).cursor = 17 := Fin.ext (by omega)
    rw [← List.cons_append, State.feedAll_append]
    exact State.feed_close_cursor last hlast
  · have hbudget := s.run_budget (0xA5#8 :: bytes)
    rw [hc, List.length_cons, hlen, Fin.val_zero] at hbudget
    omega

/-- Settles O37: the budget of a run, without the window it ends in. -/
theorem atMostOneEmissionPerEighteenBytes : Obligations.AtMostOneEmissionPerEighteenBytes :=
  fun bytes s => (Nat.le_add_right _ _).trans (s.run_budget bytes)

/-! No stale byte is read (R24, R64). -/

/-- In SEARCH there is no window to be alike in. -/
theorem State.sameWindow_of_search {s u : State} (hs : s.cursor = 0) (hu : u.cursor = 0) :
    s.SameWindow u :=
  ⟨hs.trans hu.symm, fun i hi => absurd (hs ▸ hi) (Fin.not_lt_zero i)⟩

/-- STORE makes the windows of two states grow by the same byte. -/
theorem State.SameWindow.storeOp {s u : State} (h : s.SameWindow u) (b : Byte)
    (h2 : s.cursor.val ≤ 16) : (storeOp b s).SameWindow (storeOp b u) := by
  obtain ⟨hcur, hbytes⟩ := h
  refine ⟨congrArg (· + 1) hcur, fun i hi => ?_⟩
  have hlt : i.val < (s.cursor + 1).val := hi
  rw [cursor_succ_val h2] at hlt
  rw [readByte_storeOp, readByte_storeOp, ← hcur]
  split
  · rfl
  · next hne =>
    exact hbytes i (Nat.lt_of_le_of_ne (Nat.le_of_lt_succ hlt) (Fin.val_ne_of_ne hne))

/-- The candidate frame has no byte but those of a full window and the one just received. -/
theorem State.SameWindow.readFrame_eq {s u : State} (h : s.SameWindow u) (hc : s.cursor = 17)
    (b : Byte) : (s.writeByte 17 b).readFrame = (u.writeByte 17 b).readFrame := by
  obtain ⟨-, hbytes⟩ := h
  refine Vector.ext fun i hi => ?_
  rw [State.getElem_readFrame, State.getElem_readFrame, State.readByte_writeByte,
    State.readByte_writeByte]
  split
  · rfl
  · next hne =>
    have hlt : i < 17 := Nat.lt_of_le_of_ne (Nat.le_of_lt_succ hi) fun h => hne (Fin.ext h.symm)
    exact hbytes ⟨i, hi⟩ (hc ▸ Fin.lt_def.2 hlt)

/-- What CLOSE shows on the measurement ports depends on the candidate frame alone (R114). -/
theorem meas_closeOp (b : Byte) {s : State} (hm : s.meas = none) :
    (closeOp b s).meas = if crc8Payload (s.writeByte 17 b).readFrame = b then
      some (decodeFields (s.writeByte 17 b).readFrame) else none := by
  rcases closeOp_cases b s with ⟨hcrc, h⟩ | ⟨hcrc, h⟩ <;> rw [h]
  · rw [if_pos hcrc]; rfl
  · rw [if_neg hcrc]; exact hm

/-- The same byte keeps two states alike in their windows, and both show the same measurement. -/
theorem State.SameWindow.feed {s u : State} (h : s.SameWindow u) (b : Byte) :
    (s.feed b).SameWindow (u.feed b) ∧ (s.feed b).meas = (u.feed b).meas := by
  have hcur : s.cursor = u.cursor := h.1
  have hbegin : s.beginStep.SameWindow u.beginStep := h
  rcases s.feed_cases b with ⟨hc, hb, hf⟩ | ⟨hc, rfl, hf⟩ | ⟨h1, h2, hf⟩ | ⟨hc, hf⟩
  · rw [hf, State.feed_drop (hcur ▸ hc) hb]
    exact ⟨hbegin, rfl⟩
  · rw [hf, State.feed_sync (hcur ▸ hc)]
    refine ⟨⟨rfl, fun i hi => ?_⟩, rfl⟩
    obtain rfl : i = 0 := Fin.ext (Nat.lt_one_iff.1 (Fin.lt_def.1 hi))
    rw [readByte_syncOp, readByte_syncOp, if_pos rfl, if_pos rfl]
  · rw [hf, State.feed_store (hcur ▸ h1) (hcur ▸ h2)]
    exact ⟨hbegin.storeOp b h2, rfl⟩
  · have hc' : u.cursor = 17 := hcur ▸ hc
    refine ⟨State.sameWindow_of_search (State.feed_close_cursor b hc)
      (State.feed_close_cursor b hc'), ?_⟩
    rw [hf, State.feed_close hc', meas_closeOp b s.beginStep_meas, meas_closeOp b u.beginStep_meas,
      hbegin.readFrame_eq hc b]

/-- Settles O47, by induction on the bytes. -/
theorem staleBytesAreNeverRead : Obligations.StaleBytesAreNeverRead := by
  intro bytes
  induction bytes with
  | nil => exact fun _ _ h => ⟨rfl, h⟩
  | cons b bytes ih =>
    intro s u h
    obtain ⟨hnext, hmeas⟩ := h.feed b
    obtain ⟨hem, hend⟩ := ih (s.feed b) (u.feed b) hnext
    rw [State.run_cons, State.run_cons, hmeas, hem]
    exact ⟨rfl, hend⟩

end Sys2Proof.Machine

namespace Sys2Proof

/-! The payload by its indices (R142). -/

/-- Byte `k` of the payload is the frame's byte at index `k + 1`. -/
theorem Frame.payload_eq_ofFn (f : Frame) :
    f.payload = List.ofFn fun k : Fin 16 => f[k.val + 1] := rfl

@[simp] theorem Frame.length_payload (f : Frame) : f.payload.length = 16 := rfl

@[simp] theorem Frame.getElem_payload (f : Frame) (k : Nat) (hk : k < f.payload.length) :
    f.payload[k] = f[k + 1]'(by rw [Frame.length_payload] at hk; omega) :=
  List.getElem_ofFn (f := fun k : Fin 16 => f[k.val + 1]) hk

/-- The first `n` payload bytes are those at the indices `1..n`. -/
theorem Frame.take_payload_congr {f g : Frame} {n : Nat}
    (h : ∀ (i : Nat) (hi : i < 18), 1 ≤ i → i ≤ n → f[i] = g[i]) :
    f.payload.take n = g.payload.take n := by
  refine List.ext_getElem (by simp) fun k hk _ => ?_
  have hkn : k < n := Nat.lt_of_lt_of_le hk (List.length_take_le n _)
  rw [List.getElem_take, List.getElem_take, Frame.getElem_payload, Frame.getElem_payload]
  exact h (k + 1) _ (Nat.succ_pos k) hkn

end Sys2Proof

namespace Sys2Proof.Machine

/-! The running CRC (R35). -/

/-- The payload bytes the window in progress holds. -/
def State.windowPayload (s : State) : List Byte := s.readFrame.payload.take (s.cursor.val - 1)

/-- The running register is the CRC of the payload bytes received, while there is a window. -/
def Incremental.Tracks (i : Incremental) : Prop :=
  i.core.cursor ≠ 0 → i.crc = crc8List Config.crcInit i.core.windowPayload

/-- STORE appends its byte to the payload received. -/
theorem windowPayload_storeOp (b : Byte) {s : State} (h1 : 1 ≤ s.cursor.val)
    (h2 : s.cursor.val ≤ 16) : (storeOp b s).windowPayload = s.windowPayload ++ [b] := by
  obtain ⟨n, hn⟩ : ∃ n, s.cursor.val = n + 1 := Nat.exists_eq_add_of_le' h1
  have hcur : (storeOp b s).cursor.val = n + 1 + 1 := hn ▸ cursor_succ_val h2
  have hread (i : Nat) (hi : i < 18) :
      (storeOp b s).readFrame[i] = if i = n + 1 then b else s.readFrame[i] := by
    rw [State.getElem_readFrame, State.getElem_readFrame, readByte_storeOp, ← hn]
    simp only [Fin.ext_iff]
  have hold : (storeOp b s).readFrame.payload.take n = s.readFrame.payload.take n :=
    Frame.take_payload_congr fun i hi _ hle => (hread i hi).trans (if_neg (by omega))
  have hlen : n < (storeOp b s).readFrame.payload.length := by
    rw [Frame.length_payload]
    omega
  rw [State.windowPayload, State.windowPayload, hcur, hn, Nat.add_sub_cancel, Nat.add_sub_cancel,
    List.take_succ_eq_append_getElem hlen, hold, Frame.getElem_payload, hread, if_pos rfl]

/-- With the window full, the payload received is the payload of the candidate frame. -/
theorem crc8List_windowPayload_of_full {s : State} (hc : s.cursor = 17) (b : Byte) :
    crc8List Config.crcInit s.windowPayload = crc8Payload (s.writeByte 17 b).readFrame := by
  have htake : s.readFrame.payload.take 16 = (s.writeByte 17 b).readFrame.payload.take 16 := by
    refine Frame.take_payload_congr fun i hi _ hle => ?_
    rw [State.getElem_readFrame, State.getElem_readFrame, State.readByte_writeByte, if_neg]
    exact Fin.ne_of_gt (Fin.lt_def.2 (Nat.lt_succ_of_le hle))
  rw [State.windowPayload, hc, crc8Payload]
  exact congrArg _ htake

/-- Where the register tracks the window, a byte takes the implementation where it takes the model,
and the register tracks the window again. -/
theorem Incremental.Tracks.feed {i : Incremental} (h : i.Tracks) (b : Byte) :
    (i.feed b).core = i.core.feed b ∧ (i.feed b).Tracks := by
  rcases i.core.feed_cases b with ⟨hc, hb, hf⟩ | ⟨hc, rfl, hf⟩ | ⟨h1, h2, hf⟩ | ⟨hc, hf⟩ <;> rw [hf]
  · rw [Incremental.feed_drop hc hb]
    exact ⟨rfl, fun hne => absurd hc hne⟩
  · rw [Incremental.feed_sync hc]
    exact ⟨rfl, fun _ => rfl⟩
  · have h0 : i.core.cursor ≠ 0 := fun h => by simp [h] at h1
    rw [Incremental.feed_store h1 h2]
    have hpayload : (storeOp b i.core.beginStep).windowPayload = i.core.windowPayload ++ [b] :=
      windowPayload_storeOp b (s := i.core.beginStep) h1 h2
    refine ⟨rfl, fun _ => ?_⟩
    simp only [hpayload, crc8List_append, ← h h0, crc8List_cons, crc8List_nil]
  · have hcrc : i.crc = crc8Payload (i.core.beginStep.writeByte 17 b).readFrame :=
      (h (by simp [hc])).trans (crc8List_windowPayload_of_full hc b)
    have hcore : (i.feed b).core = closeOp b i.core.beginStep := by
      simp [Incremental.feed_close hc, closeOp, validateAndDecode, hcrc]
    obtain ⟨-, hcur, -⟩ := closeOp_frame b i.core.beginStep
    exact ⟨hcore, fun hne => absurd (hcore ▸ hcur) hne⟩

/-- From a register that tracks the window the implementation runs as the model does. -/
theorem Incremental.Tracks.feedAll {i : Incremental} (h : i.Tracks) (bytes : List Byte) :
    (i.feedAll bytes).core = i.core.feedAll bytes := by
  induction bytes generalizing i with
  | nil => rfl
  | cons b bytes ih =>
    obtain ⟨hcore, htracks⟩ := h.feed b
    exact (ih htracks).trans (congrArg (State.feedAll · bytes) hcore)

/-- Settles O48: in SEARCH the register tracks the window whatever it holds. -/
theorem incrementalCrcRefines : Obligations.IncrementalCrcRefines := by
  intro bytes s crc hc
  have htracks : Incremental.Tracks { core := s, crc := crc } := fun hne => absurd hc hne
  exact htracks.feedAll bytes

end Sys2Proof.Machine

/-! PROOFS. The payload of the CRC and of DECODE (41_crc8_validator.md R142, R148;
42_float_decoder_emit.md R171): which indices enter, and the detection of single-bit errors by the
shift register that CRC8_BYTE iterates. -/

namespace Sys2Proof.Machine

/-! The operations on a frame executed on their own. -/

/-- CRC8_PAYLOAD gives the CRC back (R142). -/
theorem exec_crc8Payload (f : Frame) (s : State) :
    exec (.crc8Payload f) s = .next { s with ret := .crc (crc8Payload f) } := rfl

/-- DECODE gives the fields back (R171). -/
theorem exec_decode (f : Frame) (s : State) :
    exec (.decode f) s = .next { s with ret := .measurement (decodeFields f) } := rfl

/-- Settles O24: each field is F32LE of its four bytes, which is their concatenation. -/
theorem decodeTakesTheFourFields : Obligations.DecodeTakesTheFourFields := fun f s =>
  ⟨decodeFields f, exec_decode f s, f32le_eq_append .., f32le_eq_append .., f32le_eq_append ..,
    f32le_eq_append .., rfl⟩

end Sys2Proof.Machine

namespace Sys2Proof

/-! What the payload is of changed frames. -/

/-- Frames that agree on the indices 1 to 16 have the same CRC (R84, R142). -/
theorem crc8Payload_congr_getElem {f g : Frame}
    (h : ∀ i : FrameIndex, i ≠ 0 → i ≠ 17 → f[i] = g[i]) : crc8Payload f = crc8Payload g := by
  have htake : f.payload.take 16 = g.payload.take 16 :=
    Frame.take_payload_congr fun i hi h1 h16 =>
      h ⟨i, hi⟩ (Fin.ne_of_val_ne (Nat.ne_of_gt h1)) (Fin.ne_of_val_ne (by simp; omega))
  exact crc8Payload_congr htake

/-! The shift register (R140, R141). -/

/-- One shift of the register without input: CRC8_BIT of a zero byte. -/
def crcShift (v : Byte) : Byte := (crc8Bit v 0#8).1

/-- A bit of the register after a shift: the bit above it, with the low bit XORed in where `0x8C`
has a bit (R140). -/
theorem getLsbD_crcShift (v : Byte) {k : Nat} (hk : k < 8) :
    (crcShift v).getLsbD k =
      (v.getLsbD (k + 1) ^^ (decide (k = 7 ∨ k = 3 ∨ k = 2) && v.getLsbD 0)) := by
  rw [crcShift, getLsbD_crc8Bit_fst v 0#8 hk, BitVec.getLsbD_zero, Bool.xor_false]

/-- A shift is linear over XOR. -/
theorem crcShift_xor (v w : Byte) : crcShift (v ^^^ w) = crcShift v ^^^ crcShift w := by
  refine BitVec.eq_of_getLsbD_eq fun k hk => ?_
  simp only [BitVec.getLsbD_xor, getLsbD_crcShift _ hk, Bool.and_xor_distrib_left,
    Bool.xor_assoc, Bool.xor_left_comm]

/-- A shift leaves no register but the zero one at zero: bit 7 takes the bit that falls out. -/
theorem eq_zero_of_crcShift_eq_zero {v : Byte} (h : crcShift v = 0#8) : v = 0#8 := by
  have hbit (k : Nat) (hk : k < 8) :
      (v.getLsbD (k + 1) ^^ (decide (k = 7 ∨ k = 3 ∨ k = 2) && v.getLsbD 0)) = false := by
    rw [← getLsbD_crcShift v hk, h, BitVec.getLsbD_zero]
  have hlow : v.getLsbD 0 = false := by
    simpa [BitVec.getLsbD_of_ge v 8 (Nat.le_refl 8)] using hbit 7 (by omega)
  refine BitVec.eq_of_getLsbD_eq fun k hk => ?_
  rw [BitVec.getLsbD_zero]
  cases k with
  | zero => exact hlow
  | succ k => simpa only [hlow, Bool.and_false, Bool.xor_false] using hbit k (Nat.lt_of_succ_lt hk)

/-- `n` shifts are `n` repetitions of CRC8_BIT on a zero byte. -/
theorem crc8Bits_zero (n : Nat) (v : Byte) : crc8Bits n v 0#8 = (crcShift^[n] v, 0#8) := by
  induction n generalizing v with
  | zero => rfl
  | succ n ih =>
    have hbit : crc8Bit v 0#8 = (crcShift v, 0#8) := by
      rw [crcShift, ← Prod.mk.eta (p := crc8Bit v 0#8), crc8Bit_snd, BitVec.zero_ushiftRight]
    rw [crc8Bits, hbit, ih, Function.iterate_succ_apply]

/-- CRC8_BYTE is eight shifts of the XOR of its operands (R141). -/
theorem crc8Byte_eq_iterate (crc d : Byte) : crc8Byte crc d = crcShift^[8] (crc ^^^ d) := by
  have hxor : (crc ^^^ d) ^^^ 0#8 = crc ^^^ d := BitVec.xor_zero
  rw [← crc8Byte_congr hxor, crc8Byte, crc8Bits_zero]

/-- Repeated shifts are linear over XOR. -/
theorem iterate_crcShift_xor (n : Nat) (v w : Byte) :
    crcShift^[n] (v ^^^ w) = crcShift^[n] v ^^^ crcShift^[n] w := by
  induction n generalizing v w with
  | zero => rfl
  | succ n ih => simp only [Function.iterate_succ_apply, crcShift_xor, ih]

/-- Repeated shifts leave no register but the zero one at zero. -/
theorem eq_zero_of_iterate_crcShift_eq_zero {n : Nat} {v : Byte} (h : crcShift^[n] v = 0#8) :
    v = 0#8 := by
  induction n generalizing v with
  | zero => exact h
  | succ n ih => exact eq_zero_of_crcShift_eq_zero (ih h)

/-! The CRC of a payload is linear (R148). -/

/-- CRC8_BYTE is linear over XOR in both operands together. -/
theorem crc8Byte_xor (c d c' d' : Byte) :
    crc8Byte (c ^^^ c') (d ^^^ d') = crc8Byte c d ^^^ crc8Byte c' d' := by
  have hswap : (c ^^^ c') ^^^ (d ^^^ d') = (c ^^^ d) ^^^ (c' ^^^ d') := by ac_rfl
  simp only [crc8Byte_eq_iterate, hswap, iterate_crcShift_xor]

/-- The CRC of a list is linear over bytewise XOR. -/
theorem crc8List_xor (c c' : Byte) {as bs : List Byte} (h : as.length = bs.length) :
    crc8List (c ^^^ c') (List.zipWith (· ^^^ ·) as bs) = crc8List c as ^^^ crc8List c' bs := by
  induction as generalizing c c' bs with
  | nil =>
    obtain rfl := List.length_eq_zero_iff.1 h.symm
    rfl
  | cons a as ih =>
    cases bs with
    | nil => cases h
    | cons b bs =>
      rw [List.zipWith_cons_cons, crc8List_cons, crc8Byte_xor, ih _ _ (Nat.succ.inj h)]
      rfl

/-- The payload of the XOR of two frames. -/
theorem Frame.payload_xor (f g : Frame) :
    (f.xor g).payload = List.zipWith (· ^^^ ·) f.payload g.payload := by
  simp [Frame.payload, Frame.xor]

/-- A byte of the XOR of two frames. -/
theorem Frame.getElem_xor (f g : Frame) (j : Nat) (hj : j < 18) : (f.xor g)[j] = f[j] ^^^ g[j] := by
  simp [Frame.xor]

/-- CRC8_PAYLOAD is linear over XOR (R148). -/
theorem crc8Payload_xor (f g : Frame) :
    crc8Payload (f.xor g) = crc8Payload f ^^^ crc8Payload g := by
  have hinit : Config.crcInit = Config.crcInit ^^^ Config.crcInit := rfl
  rw [crc8Payload, Frame.payload_xor, hinit]
  exact crc8List_xor _ _ rfl

/-! A payload with one bit set (R148). -/

/-- Zero bytes shift the register by eight each. -/
theorem crc8List_zeros (n : Nat) (v : Byte) :
    crc8List v (List.replicate n 0#8) = crcShift^[8 * n] v := by
  induction n generalizing v with
  | zero => rfl
  | succ n ih =>
    rw [List.replicate_succ, crc8List_cons, ih, crc8Byte_eq_iterate, BitVec.xor_zero,
      ← Function.iterate_add_apply, Nat.mul_succ]

/-- A byte among zeros is shifted by eight for itself and for each zero byte after it. -/
theorem crc8List_zeros_cons_zeros (m n : Nat) (v : Byte) :
    crc8List 0#8 (List.replicate m 0#8 ++ v :: List.replicate n 0#8) =
      crcShift^[8 * (n + 1)] v := by
  rw [crc8List_append, crc8List_replicate_zero, crc8List_cons, crc8List_zeros, crc8Byte_eq_iterate,
    BitVec.zero_xor, ← Function.iterate_add_apply, Nat.mul_succ]

/-- A byte of a payload with one bit set (R148). -/
theorem Frame.getElem_oneBit (i : FrameIndex) (k : Fin 8) (j : Nat) (hj : j < 18) :
    (Frame.oneBit i k)[j] = if i.val = j then 1#8 <<< k.val else 0#8 := by
  simp [Frame.oneBit, Vector.getElem_set]

/-- A payload with one bit set is that bit's byte among zeros. -/
theorem Frame.payload_oneBit {i : FrameIndex} {m : Nat} (hi : i.val = m + 1) (hm : m < 16)
    (k : Fin 8) : (Frame.oneBit i k).payload =
      List.replicate m 0#8 ++ 1#8 <<< k.val :: List.replicate (15 - m) 0#8 := by
  have hset : (Frame.oneBit i k).payload = (List.replicate 16 0#8).set m (1#8 <<< k.val) := by
    refine List.ext_getElem (by simp) fun j _ _ => ?_
    rw [Frame.getElem_payload, Frame.getElem_oneBit, List.getElem_set, List.getElem_replicate, hi]
    simp only [Nat.add_right_cancel_iff]
  rw [hset, List.set_eq_take_append_cons_drop, if_pos (by simpa using hm), List.take_replicate,
    List.drop_replicate, Nat.min_eq_left hm.le, Nat.add_sub_add_right 15 1 m]

/-- Every single bit is reached from the top bit, which shifts down without feedback. -/
theorem one_shiftLeft_eq_iterate (k : Fin 8) : 1#8 <<< k.val = crcShift^[7 - k.val] 0x80#8 := by
  revert k
  decide

/-- The CRC of a payload with bit `k` of index `i` set: the top bit shifted by as many bits as come
after it (R148). -/
theorem crc8Payload_oneBit {i : FrameIndex} (h1 : 1 ≤ i.val) (h16 : i.val ≤ 16) (k : Fin 8) :
    crc8Payload (Frame.oneBit i k) = crcShift^[8 * (17 - i.val) + (7 - k.val)] 0x80#8 := by
  obtain ⟨m, hm⟩ : ∃ m, i.val = m + 1 := Nat.exists_eq_add_of_le' h1
  rw [crc8Payload, Frame.payload_oneBit hm (by omega), Config.crcInit, crc8List_zeros_cons_zeros,
    one_shiftLeft_eq_iterate, ← Function.iterate_add_apply, hm,
    show 15 - m + 1 = 17 - (m + 1) by omega]

/-- A payload with one bit set does not have the CRC zero (R148). -/
theorem crc8Payload_oneBit_ne_zero {i : FrameIndex} (h1 : 1 ≤ i.val) (h16 : i.val ≤ 16)
    (k : Fin 8) : crc8Payload (Frame.oneBit i k) ≠ 0#8 := by
  rw [crc8Payload_oneBit h1 h16]
  exact fun h => absurd (eq_zero_of_iterate_crcShift_eq_zero h) (by decide)

/-! The 128 CRCs of one bit (R148): the register runs through a cycle of 127 values. -/

/-- The top bit comes back after 127 shifts. -/
theorem isPeriodicPt_crcShift : Function.IsPeriodicPt crcShift 127 0x80#8 := by
  change crcShift^[127] 0x80#8 = 0x80#8
  decide +kernel

/-- It does not come back before: 127 is a prime and one shift moves the bit. -/
theorem minimalPeriod_crcShift : Function.minimalPeriod crcShift 0x80#8 = 127 := by
  have hprime : Fact (Nat.Prime 127) := ⟨by norm_num⟩
  exact Function.minimalPeriod_eq_prime isPeriodicPt_crcShift (by decide)

/-- The CRCs of the 128 payloads with one bit set. -/
def oneBitCrcs : List Byte :=
  (List.finRange 16).flatMap fun p => (List.finRange 8).map fun k =>
    crc8Payload (Frame.oneBit p.succ.castSucc k)

/-- The CRCs of one bit are 128 consecutive values of the register. -/
theorem mem_oneBitCrcs_iff (v : Byte) :
    v ∈ oneBitCrcs ↔ ∃ n, 8 ≤ n ∧ n ≤ 135 ∧ crcShift^[n] 0x80#8 = v := by
  have hval (p : Fin 16) : (p.succ.castSucc : FrameIndex).val = p.val + 1 := rfl
  have hcrc (p : Fin 16) (k : Fin 8) : crc8Payload (Frame.oneBit p.succ.castSucc k) =
      crcShift^[8 * (16 - p.val) + (7 - k.val)] 0x80#8 := by
    rw [crc8Payload_oneBit (i := p.succ.castSucc) (Nat.le_add_left 1 p.val) p.isLt, hval,
      Nat.add_sub_add_right 16 1 p.val]
  simp only [oneBitCrcs, List.mem_flatMap, List.mem_map, List.mem_finRange, true_and, hcrc]
  constructor
  · rintro ⟨p, k, h⟩
    exact ⟨_, by omega, by omega, h⟩
  · rintro ⟨n, hlow, hhigh, h⟩
    refine ⟨⟨(135 - n) / 8, by omega⟩, ⟨(135 - n) % 8, by omega⟩, ?_⟩
    rw [← h]
    congr 2
    simp only
    omega

/-- 128 consecutive values of the register are all of its cycle. -/
theorem toFinset_oneBitCrcs :
    oneBitCrcs.toFinset = (Finset.range 127).image fun n => crcShift^[n] 0x80#8 := by
  have hperiod (n : Nat) : crcShift^[n + 127] 0x80#8 = crcShift^[n] 0x80#8 := by
    rw [Function.iterate_add_apply, isPeriodicPt_crcShift.eq]
  ext v
  rw [List.mem_toFinset, mem_oneBitCrcs_iff, Finset.mem_image]
  constructor
  · rintro ⟨n, hlow, hhigh, h⟩
    by_cases hn : n < 127
    · exact ⟨n, Finset.mem_range.2 hn, h⟩
    · obtain ⟨m, rfl⟩ := Nat.exists_eq_add_of_le' (Nat.le_of_not_lt hn)
      exact ⟨m, Finset.mem_range.2 (by omega), (hperiod m).symm.trans h⟩
  · rintro ⟨n, hn, h⟩
    have hlt := Finset.mem_range.1 hn
    by_cases h8 : 8 ≤ n
    · exact ⟨n, h8, by omega, h⟩
    · exact ⟨n + 127, by omega, by omega, (hperiod n).trans h⟩

/-- The CRCs of one bit take 127 values (R148). -/
theorem length_dedup_oneBitCrcs : oneBitCrcs.dedup.length = 127 := by
  have hinj : Set.InjOn (fun n => crcShift^[n] 0x80#8) (Finset.range 127) := by
    rw [Finset.coe_range, ← minimalPeriod_crcShift]
    exact Function.iterate_injOn_Iio_minimalPeriod
  rw [← List.card_toFinset, toFinset_oneBitCrcs, Finset.card_image_of_injOn hinj, Finset.card_range]

/-! A flipped bit (R148). -/

/-- A bit flipped is a payload with one bit set XORed in. -/
theorem Frame.flipBit_eq_xor (f : Frame) (i : FrameIndex) (k : Fin 8) :
    f.flipBit i k = f.xor (Frame.oneBit i k) := by
  refine Vector.ext fun j hj => ?_
  rw [Frame.flipBit, Vector.getElem_set, Frame.getElem_xor, Frame.getElem_oneBit]
  split
  · next heq => subst heq; rfl
  · exact BitVec.xor_zero.symm

/-- One bit set outside index 0 is no valid frame: at an index of the payload it makes the CRC
non-zero, and at index 17 only the checksum byte. -/
theorem crc8Payload_oneBit_ne_checksum {i : FrameIndex} (hi : i ≠ 0) (k : Fin 8) :
    crc8Payload (Frame.oneBit i k) ≠ (Frame.oneBit i k)[17] := by
  rw [Frame.getElem_oneBit]
  split
  · next h17 =>
    obtain rfl : i = 17 := Fin.ext h17
    have hzero : crc8Payload (Frame.oneBit 17 k) = 0#8 :=
      (crc8Payload_congr (Frame.payload_set_checksum (Vector.replicate 18 0#8) _)).trans
        (crc8List_replicate_zero 16)
    rw [hzero, one_shiftLeft_eq_iterate]
    exact fun h => absurd (eq_zero_of_iterate_crcShift_eq_zero h.symm) (by decide)
  · next h17 =>
    have h0 : i.val ≠ 0 := Fin.val_ne_zero_iff.2 hi
    exact crc8Payload_oneBit_ne_zero (by omega) (by omega) k

/-- A bit flipped outside index 0 leaves no valid frame valid (R148): by linearity the flip shifts
the CRC and the checksum byte by those of the single bit. -/
theorem crc8Payload_flipBit_ne {f : Frame} {i : FrameIndex} (k : Fin 8)
    (hf : crc8Payload f = f[17]) (hi : i ≠ 0) :
    crc8Payload (f.flipBit i k) ≠ (f.flipBit i k)[17] := by
  have hflip := f.flipBit_eq_xor i k
  rw [hflip, crc8Payload_xor, Frame.getElem_xor, hf]
  exact fun h => crc8Payload_oneBit_ne_checksum hi k ((BitVec.xor_right_inj _).1 h)

end Sys2Proof

namespace Sys2Proof.Machine

/-- Settles O18: the fold over the payload is the one over the indices, and no other index is part
of it. -/
theorem crcPayloadOverIndices1To16 : Obligations.CrcPayloadOverIndices1To16 :=
  fun f s => ⟨⟨crc8Payload f, exec_crc8Payload f s, rfl⟩, fun _ => crc8Payload_congr_getElem⟩

/-- Settles O21: linearity, the cycle of the register, and the effect of a flipped bit. -/
theorem crcDetectsSingleBitErrors : Obligations.CrcDetectsSingleBitErrors :=
  ⟨crc8Payload_xor, fun _ k h1 h16 => crc8Payload_oneBit_ne_zero h1 h16 k, length_dedup_oneBitCrcs,
    fun _ _ k hf hi => validateAndDecode_of_mismatch (crc8Payload_flipBit_ne k hf hi)⟩

end Sys2Proof.Machine
